-- ==== Sys2Proof/Word.lean ====
section
/-! DEFINITION. The word types of the block (00_scope.md R8): u7, u8, u16, u32 and the optional registers built on them. -/

namespace Sys2Proof

/-- An op word of the ROM (R70). -/
abbrev Word := BitVec 32

/-- A byte on the bus, an operand byte of an op word, a register pointer (R8). -/
abbrev Byte := BitVec 8

/-- A 7-bit bus address (R8, R51). -/
abbrev BusAddr := BitVec 7

/-- A 16-bit register; read as a signed value it is the spec's i16 (R9 `s16`). -/
abbrev Half := BitVec 16

/-- The micro-program counter: 9 bits hold it (R20). -/
abbrev Upc := BitVec 9

end Sys2Proof
end

