-- ==== Sys2Proof/Config.lean ====
section
/-! DEFINITION. What is fixed for a run (00_scope.md R6): the constants the source settles, and the parameters a model may vary. -/

namespace Sys2Proof

/-! ### Values R6 marks "source" -/

/-- SENSOR_ADDR (R6, R51). -/
def sensorAddr : BusAddr := 0x77#7

/-- EXPECTED_ID (R6). -/
def expectedId : Byte := 0x55#8

/-- SCAN_FIRST, the first address SCAN probes (R6, R120). -/
def scanFirst : BitVec 8 := 0#8

/-- SCAN_LAST, the last address SCAN probes (R6, R120). -/
def scanLast : BitVec 8 := 127#8

/-- REG_ID (R6, R52). -/
def regId : Byte := 0xD0#8

/-- REG_AC5 (R6, R147). -/
def regAc5 : Byte := 0xB2#8

/-- REG_AC6 (R6, R147). -/
def regAc6 : Byte := 0xB4#8

/-- REG_MC (R6, R147). -/
def regMc : Byte := 0xBC#8

/-- REG_MD (R6, R147). -/
def regMd : Byte := 0xBE#8

/-- REG_CTRL (R6, R52). -/
def regCtrl : Byte := 0xF4#8

/-- CTRL_TEMP, the control value that selects a temperature measurement (R6, R80). -/
def ctrlTemp : Byte := 0x2E#8

/-- REG_MSB (R6, R52). -/
def regMsb : Byte := 0xF6#8

/-- REG_LSB (R6, R52). -/
def regLsb : Byte := 0xF7#8

/-- TIMER_PERIOD of the reference design in milliseconds (R6, R164). No rule reads it (log 16). -/
def timerPeriodMs : Nat := 1000

/-! ### Parameters -/

/-- FAIL_POLICY (R6, R256). -/
inductive FailPolicy where
  | halt
  | cont
  deriving DecidableEq, Repr

/-- ID_READ_FAIL_MODE (R6, R141). -/
inductive IdReadFailMode where
  | fatal
  | reportUndetected
  deriving DecidableEq, Repr

/-- HEX_CASE: the sink's rendering of `NN` (R6, R87). -/
inductive HexCase where
  | upper
  | lower
  deriving DecidableEq, Repr

/-- The configuration R6 lets a model vary. It is fixed for a run and is no architectural state (R41);
`State` carries it so that `step` takes it as an argument (log 3). -/
structure Config where
  /-- PROBE_BYTE -/
  probeByte : Byte
  /-- T_CONV_MIN in microseconds where a run names one; `none` leaves it OPEN. No rule reads it (R164, R292; log 16). -/
  tConvMin : Option Nat
  /-- FAIL_POLICY -/
  failPolicy : FailPolicy
  /-- MAX_CONSEC_FAIL, 1 to 255 -/
  maxConsecFail : BitVec 8
  /-- ID_READ_FAIL_MODE -/
  idReadFailMode : IdReadFailMode
  /-- ROM; its length is ROM_LEN (R53) -/
  rom : List Word
  /-- RESUME_UPC -/
  resumeUpc : BitVec 8
  /-- HEX_CASE; read by the sink's rendering only -/
  hexCase : HexCase
  deriving DecidableEq, Repr

/-- The reference ROM, word by word as R236 prints it. -/
def referenceRom : List Word :=
  [0x00000101#32, 0x00000003#32, 0x00000004#32, 0x00000007#32,
   0x0000000C#32, 0x00000011#32, 0x00000901#32, 0x00000412#32]

/-- The defaults of R6 with the reference ROM (R236). DESIGN CHOICE (log 3): the two OPEN parameters,
`tConvMin` left open and `hexCase` upper. -/
def Config.reference : Config where
  probeByte := 0x00#8
  tConvMin := none
  failPolicy := .halt
  maxConsecFail := 1#8
  idReadFailMode := .fatal
  rom := referenceRom
  resumeUpc := 4#8
  hexCase := .upper

end Sys2Proof
end

