-- ==== Sys2Proof/Syntax.lean ====
section
/-! DEFINITION. The ops: one constructor per row of spec/opcode_table.json (30_encoding.md R71, R73). -/

namespace Sys2Proof

/-- The six tags REPORT may name (R71, R233). -/
inductive ReportTag where
  | scanStart
  | ac5
  | ac6
  | mc
  | md
  | temp
  deriving DecidableEq, Repr

/-- A staging slot: 0 AC5, 1 AC6, 2 MC, 3 MD (R71, R147). -/
inductive Slot where
  | ac5
  | ac6
  | mc
  | md
  deriving DecidableEq, Repr

/-- The nineteen ops (R73). Operands have the types R71 gives them, so every term is a legal op. -/
inductive Instr where
  /-- REPORT tag (R233) -/
  | report (tag : ReportTag)
  /-- PROBE a (R122) -/
  | probe (a : BusAddr)
  /-- SCAN (R124) -/
  | scan
  /-- READ_ID (R141) -/
  | readId
  /-- READ_REG16 p, s (R145) -/
  | readReg16 (p : Byte) (slot : Slot)
  /-- COMMIT_CALIB (R146) -/
  | commitCalib
  /-- READ_CALIB (R148) -/
  | readCalib
  /-- TRIGGER (R161) -/
  | trigger
  /-- WAIT_CONV (R163) -/
  | waitConv
  /-- READ_MSB (R165) -/
  | readMsb
  /-- READ_LSB (R167) -/
  | readLsb
  /-- MEASURE (R172) -/
  | measure
  /-- CMP_X1 (R195) -/
  | cmpX1
  /-- CMP_X2 (R196) -/
  | cmpX2
  /-- CMP_B5 (R197) -/
  | cmpB5
  /-- CMP_T (R198) -/
  | cmpT
  /-- COMPENSATE (R199) -/
  | compensate
  /-- JMP n (R234) -/
  | jmp (n : Byte)
  /-- HALT (R235) -/
  | halt
  deriving DecidableEq, Repr

/-- The four byte fields of an op word (R70), before any check. -/
structure OpFields where
  /-- bits 7:0 -/
  opc : Byte
  /-- bits 15:8 -/
  a : Byte
  /-- bits 23:16 -/
  b : Byte
  /-- bits 31:24 -/
  rsv : Byte
  deriving DecidableEq, Repr

end Sys2Proof
end

