-- ==== Sys2Proof/WellFormed.lean ====
section
/-! DEFINITION. What makes op fields, a configuration and a micro-program well formed. -/

namespace Sys2Proof

/-! ### The fields of an op word (R70, R71, R74) -/

/-- Why a word is illegal, one name per clause of R74. -/
inductive DecodeError where
  /-- opcode 0x00 or 0x14 to 0xFF -/
  | unknownOpcode
  /-- a nonzero RSV field -/
  | reservedNotZero
  /-- a nonzero bit in a field, or a part of one, that the op does not use -/
  | unusedFieldNotZero
  /-- a REPORT tag that is not one of the six legal ones -/
  | illegalTag
  deriving DecidableEq, Repr

/-- The opcodes of R73. -/
def OpFields.opcodeKnown (f : OpFields) : Bool :=
  0x01#8 ≤ f.opc && f.opc ≤ 0x13#8

/-- R70: RSV must be 0. -/
def OpFields.reservedZero (f : OpFields) : Bool :=
  f.rsv == 0#8

/-- The bits of A an op with this opcode uses (R71). -/
def usedA (opc : Byte) : Byte :=
  if opc = 0x01#8 ∨ opc = 0x05#8 ∨ opc = 0x12#8 then 0xFF#8
  else if opc = 0x02#8 then 0x7F#8
  else 0x00#8

/-- The bits of B an op with this opcode uses (R71). -/
def usedB (opc : Byte) : Byte :=
  if opc = 0x05#8 then 0x03#8 else 0x00#8

/-- R71: every bit an op does not use must be 0. -/
def OpFields.unusedZero (f : OpFields) : Bool :=
  f.a &&& ~~~(usedA f.opc) == 0#8 && f.b &&& ~~~(usedB f.opc) == 0#8

/-- R71: only the tags 0x01, 0x05, 0x06, 0x07, 0x08 and 0x09 are legal in a REPORT. -/
def OpFields.tagLegal (f : OpFields) : Bool :=
  f.opc != 0x01#8 || [0x01#8, 0x05#8, 0x06#8, 0x07#8, 0x08#8, 0x09#8].contains f.a

/-- The check of R74 on the fields of a word. -/
def OpFields.wf (f : OpFields) : Bool :=
  f.opcodeKnown && f.reservedZero && f.unusedZero && f.tagLegal

/-- Which clause of R74 the fields break first (log 19: the order of the names is the model's). -/
def OpFields.firstError (f : OpFields) : DecodeError :=
  if !f.opcodeKnown then .unknownOpcode
  else if !f.reservedZero then .reservedNotZero
  else if !f.unusedZero then .unusedFieldNotZero
  else .illegalTag

/-! ### The configuration (R6; 93_implementation_defined.md U15) -/

/-- ROM_LEN is 1 to 256 (R6). -/
def Config.romSizeLegal (c : Config) : Bool :=
  decide (1 ≤ c.rom.length) && decide (c.rom.length ≤ 256)

/-- MAX_CONSEC_FAIL is 1 to 255 (R6). -/
def Config.maxConsecLegal (c : Config) : Bool :=
  c.maxConsecFail != 0#8

/-- RESUME_UPC names a word of the ROM (U15; D28: "A different ROM must set its own value"; log 7). -/
def Config.resumeInRom (c : Config) : Bool :=
  decide (c.resumeUpc.toNat < c.rom.length)

/-- Every field lies in the type R6 gives it. -/
def Config.inType (c : Config) : Bool :=
  c.romSizeLegal && c.maxConsecLegal

/-- A configuration U15 does not refuse: what `step` asks before anything else. -/
def Config.wf (c : Config) : Bool :=
  c.inType && c.resumeInRom

/-! ### A micro-program (R220, R234, R255) -/

/-- A JMP's target lies in a ROM of `len` words; no other op has a target (R234). -/
def Instr.targetInRom (len : Nat) : Instr → Bool
  | .jmp n => decide (n.toNat < len)
  | .report _ | .probe _ | .scan | .readId | .readReg16 _ _ | .commitCalib | .readCalib
  | .trigger | .waitConv | .readMsb | .readLsb | .measure
  | .cmpX1 | .cmpX2 | .cmpB5 | .cmpT | .compensate | .halt => true

/-- The op never hands control to the word after it (R234, R235). -/
def Instr.endsFlow : Instr → Bool
  | .jmp _ | .halt => true
  | .report _ | .probe _ | .scan | .readId | .readReg16 _ _ | .commitCalib | .readCalib
  | .trigger | .waitConv | .readMsb | .readLsb | .measure
  | .cmpX1 | .cmpX2 | .cmpB5 | .cmpT | .compensate => false

/-- Control cannot run off the end of the program: its last op is a JMP or a HALT. -/
def programEnds (p : List Instr) : Bool :=
  match p.getLast? with
  | some i => i.endsFlow
  | none => false

/-- A program from which no fetch can leave the ROM: every target inside, no running off the end. -/
def programWf (p : List Instr) : Bool :=
  p.all (Instr.targetInRom p.length) && programEnds p

end Sys2Proof
end

