-- ==== Sys2Proof/Decode.lean ====
section
/-! DEFINITION. The decoder (30_encoding.md R73, R74; 45_sequencer.md R223) and the encoder (R70, R71). -/

namespace Sys2Proof

/-! ### Fields of a word (R70) -/

/-- The four fields of R70. -/
def fieldsOf (w : Word) : OpFields where
  opc := w.extractLsb' 0 8
  a := w.extractLsb' 8 8
  b := w.extractLsb' 16 8
  rsv := w.extractLsb' 24 8

/-- The tag values of R86 that REPORT may name. -/
def ReportTag.ofByte (v : Byte) : Option ReportTag :=
  if v = 0x01#8 then some .scanStart
  else if v = 0x05#8 then some .ac5
  else if v = 0x06#8 then some .ac6
  else if v = 0x07#8 then some .mc
  else if v = 0x08#8 then some .md
  else if v = 0x09#8 then some .temp
  else none

/-- The byte a REPORT tag is written as (R86). -/
def ReportTag.code : ReportTag → Byte
  | .scanStart => 0x01#8
  | .ac5 => 0x05#8
  | .ac6 => 0x06#8
  | .mc => 0x07#8
  | .md => 0x08#8
  | .temp => 0x09#8

/-- B[1:0] names the slot (R71). -/
def Slot.ofBits (v : BitVec 2) : Slot :=
  if v = 0#2 then .ac5 else if v = 1#2 then .ac6 else if v = 2#2 then .mc else .md

/-- The number of a slot (R147). -/
def Slot.code : Slot → BitVec 2
  | .ac5 => 0#2
  | .ac6 => 1#2
  | .mc => 2#2
  | .md => 3#2

/-! ### The opcode map -/

/-- One row of R73: `w` is the op iff `w &&& mask = pattern`, plus the constraint `operands` checks. -/
structure OpRow where
  mnemonic : String
  pattern : Word
  mask : Word
  operands : OpFields → Option Instr

/-- The rows with operands, and the start-up ops (R73). -/
def rowsStartup : List OpRow :=
  [⟨"REPORT", 0x00000001#32, 0xFFFF00FF#32, fun f => (ReportTag.ofByte f.a).map Instr.report⟩,
   ⟨"PROBE", 0x00000002#32, 0xFFFF80FF#32, fun f => some (.probe (f.a.setWidth 7))⟩,
   ⟨"SCAN", 0x00000003#32, 0xFFFFFFFF#32, fun _ => some .scan⟩,
   ⟨"READ_ID", 0x00000004#32, 0xFFFFFFFF#32, fun _ => some .readId⟩,
   ⟨"READ_REG16", 0x00000005#32, 0xFFFC00FF#32, fun f => some (.readReg16 f.a (Slot.ofBits (f.b.setWidth 2)))⟩,
   ⟨"COMMIT_CALIB", 0x00000006#32, 0xFFFFFFFF#32, fun _ => some .commitCalib⟩,
   ⟨"READ_CALIB", 0x00000007#32, 0xFFFFFFFF#32, fun _ => some .readCalib⟩]

/-- The rows of the measurement cycle (R73). -/
def rowsMeasurement : List OpRow :=
  [⟨"TRIGGER", 0x00000008#32, 0xFFFFFFFF#32, fun _ => some .trigger⟩,
   ⟨"WAIT_CONV", 0x00000009#32, 0xFFFFFFFF#32, fun _ => some .waitConv⟩,
   ⟨"READ_MSB", 0x0000000A#32, 0xFFFFFFFF#32, fun _ => some .readMsb⟩,
   ⟨"READ_LSB", 0x0000000B#32, 0xFFFFFFFF#32, fun _ => some .readLsb⟩,
   ⟨"MEASURE", 0x0000000C#32, 0xFFFFFFFF#32, fun _ => some .measure⟩]

/-- The rows of the compensation and of the sequencer (R73). -/
def rowsCompensation : List OpRow :=
  [⟨"CMP_X1", 0x0000000D#32, 0xFFFFFFFF#32, fun _ => some .cmpX1⟩,
   ⟨"CMP_X2", 0x0000000E#32, 0xFFFFFFFF#32, fun _ => some .cmpX2⟩,
   ⟨"CMP_B5", 0x0000000F#32, 0xFFFFFFFF#32, fun _ => some .cmpB5⟩,
   ⟨"CMP_T", 0x00000010#32, 0xFFFFFFFF#32, fun _ => some .cmpT⟩,
   ⟨"COMPENSATE", 0x00000011#32, 0xFFFFFFFF#32, fun _ => some .compensate⟩,
   ⟨"JMP", 0x00000012#32, 0xFFFF00FF#32, fun f => some (.jmp f.a)⟩,
   ⟨"HALT", 0x00000013#32, 0xFFFFFFFF#32, fun _ => some .halt⟩]

/-- The opcode map of R73. -/
def opcodeMap : List OpRow :=
  rowsStartup ++ rowsMeasurement ++ rowsCompensation

/-- The word matches the row (R73). -/
def OpRow.matchesWord (r : OpRow) (w : Word) : Bool :=
  w &&& r.mask == r.pattern

/-- The op a word names, or the reason it names none. Total (R74); at most one row matches (R223). -/
def decode (w : Word) : Except DecodeError Instr :=
  match opcodeMap.find? (·.matchesWord w) with
  | none => .error (fieldsOf w).firstError
  | some r =>
    match r.operands (fieldsOf w) with
    | none => .error (fieldsOf w).firstError
    | some i => .ok i

/-! ### The encoder -/

/-- The opcode of an op (R73). -/
def Instr.opcode : Instr → Byte
  | .report _ => 0x01#8
  | .probe _ => 0x02#8
  | .scan => 0x03#8
  | .readId => 0x04#8
  | .readReg16 _ _ => 0x05#8
  | .commitCalib => 0x06#8
  | .readCalib => 0x07#8
  | .trigger => 0x08#8
  | .waitConv => 0x09#8
  | .readMsb => 0x0A#8
  | .readLsb => 0x0B#8
  | .measure => 0x0C#8
  | .cmpX1 => 0x0D#8
  | .cmpX2 => 0x0E#8
  | .cmpB5 => 0x0F#8
  | .cmpT => 0x10#8
  | .compensate => 0x11#8
  | .jmp _ => 0x12#8
  | .halt => 0x13#8

/-- The operand byte A of an op (R71). -/
def Instr.fieldA : Instr → Byte
  | .report tag => tag.code
  | .probe a => a.setWidth 8
  | .readReg16 p _ => p
  | .jmp n => n
  | .scan | .readId | .commitCalib | .readCalib | .trigger | .waitConv | .readMsb | .readLsb
  | .measure | .cmpX1 | .cmpX2 | .cmpB5 | .cmpT | .compensate | .halt => 0x00#8

/-- The operand byte B of an op (R71). -/
def Instr.fieldB : Instr → Byte
  | .readReg16 _ slot => slot.code.setWidth 8
  | .report _ | .probe _ | .scan | .readId | .commitCalib | .readCalib | .trigger | .waitConv
  | .readMsb | .readLsb | .measure | .cmpX1 | .cmpX2 | .cmpB5 | .cmpT | .compensate | .jmp _
  | .halt => 0x00#8

/-- The fields of an op's word: RSV is 0 (R70). -/
def Instr.fields (i : Instr) : OpFields where
  opc := i.opcode
  a := i.fieldA
  b := i.fieldB
  rsv := 0#8

/-- The word with these fields (R70). -/
def OpFields.word (f : OpFields) : Word :=
  f.rsv ++ f.b ++ f.a ++ f.opc

/-- The op word of an op. -/
def encode (i : Instr) : Word :=
  i.fields.word

/-- A ROM that holds the program (R53). -/
def assemble (p : List Instr) : List Word :=
  p.map encode

/-- The decoder on an opcode-table word of `nbits` bits; the bits above `nbits` are 0. Every op is one 32-bit word (R70). -/
def decodeTableWord (nbits w : Nat) : Option Instr :=
  if w % 2 ^ nbits < 2 ^ 32 then
    match decode (BitVec.ofNat 32 (w % 2 ^ nbits)) with
    | .ok i => some i
    | .error _ => none
  else none

end Sys2Proof
end

