-- ==== Sys2Proof/Machine/State.lean ====
section
/-! DEFINITION. The machine's state as plain data (10_state.md), its ports (70_reset_and_hazards.md R285), the event
trace (45_sequencer.md R238), the environment's inputs, the stops of a step, and the state after reset. -/

namespace Sys2Proof.Machine

/-! ### The ports -/

/-- The kinds of transaction (R76, R100). WTR is write_then_read. -/
inductive BusKind where
  | write
  | read
  | wtr
  deriving DecidableEq, Repr

/-- A bus request (R76). -/
structure BusReq where
  kind : BusKind
  addr : BusAddr
  wdata : List Byte
  rlen : Nat
  deriving DecidableEq, Repr

/-- The error kinds of a failed transaction (R77, R105). -/
inductive ErrKind where
  | addrNack
  | dataNack
  | transport
  deriving DecidableEq, Repr

/-- A bus response (R77). -/
inductive BusResp where
  | ok (rdata : List Byte)
  | err (k : ErrKind)
  deriving DecidableEq, Repr

/-- What the bus does when the block next waits on it (R107; log 1). Every turn is admissible for every request:
`ack` offers two bytes and a transaction takes as many of them as it reads (R101 to R103). -/
inductive BusTurn where
  /-- the transaction succeeds; its `rlen` bytes are the first of these -/
  | ack (b0 b1 : Byte)
  /-- the transaction fails -/
  | nack (k : ErrKind)
  /-- the bus has not answered yet (R109 "a slower answer", R111) -/
  | hold
  deriving DecidableEq, Repr

/-- What the timer and the host do at a step boundary (log 2). -/
inductive EnvTick where
  /-- nothing -/
  | quiet
  /-- the timer signals that the outstanding wait has elapsed (R170) -/
  | elapsed
  /-- the host asserts reset (R281) -/
  | reset
  deriving DecidableEq, Repr

/-! ### Records, causes, events -/

/-- The states of the measurement cycle (R31). -/
inductive MeasState where
  | idle
  | triggered
  | converting
  | readMsb
  | readLsb
  | complete
  deriving DecidableEq, Repr

/-- RUNNING or HALTED (R22). -/
inductive RunState where
  | running
  | halted
  deriving DecidableEq, Repr

/-- The causes of R250. -/
inductive Cause where
  | none
  | busAddrNack
  | busDataNack
  | busTransport
  | formulaDiv0
  | seqError
  | illegalOp
  deriving DecidableEq, Repr

/-- The classes of R256. -/
inductive FaultClass where
  | absorbed
  | startup
  | cycle
  | fatal
  deriving DecidableEq, Repr

/-- The record of the last fault (R37). -/
structure FaultInfo where
  op : Byte
  busAddr : Option BusAddr := Option.none
  ptr : Option Byte := Option.none
  err : Option ErrKind := Option.none
  word : Option Word := Option.none
  deriving DecidableEq, Repr

/-- The CalibrationRecord (R29). -/
structure CalRec where
  ac5 : Half
  ac6 : Half
  mc : Half
  md : Half
  deriving DecidableEq, Repr

/-- The four staging slots (R27). -/
structure CalStage where
  ac5 : Option Half
  ac6 : Option Half
  mc : Option Half
  md : Option Half
  deriving DecidableEq, Repr

/-- A report record with the value type R86 gives its tag. -/
inductive Record where
  | scanStart
  | found (a : BusAddr)
  | idIs (id : Byte)
  | idUndetected
  | ac5 (v : Half)
  | ac6 (v : Half)
  | mc (v : Half)
  | md (v : Half)
  | temp (v : BitVec 32)
  | cycleError (c : Cause)
  deriving DecidableEq, Repr

/-- The events of R238. -/
inductive Event where
  | bus (req : BusReq) (resp : BusResp)
  | timerStart
  | timerElapsed
  | report (r : Record)
  | reset
  deriving DecidableEq, Repr

/-! ### The stops of a step -/

/-- What stops the machine for good. The faults of 60_exceptions.md are next states, not these. -/
inductive Fault where
  /-- Raised by `step` before anything else when the configuration is one U15 refuses: a ROM_LEN or
  MAX_CONSEC_FAIL outside the types of R6, or a RESUME_UPC outside the ROM (log 7).
  Safe: no step of such a machine is given. -/
  | configOutsideType
  deriving DecidableEq, Repr

/-- What the model gives no meaning to. -/
inductive Refusal where
  /-- Raised by an arm of `exec` whose instruction has no meaning yet. Safe. No arm does. -/
  | notModelled (mnemonic : String)
  /-- Raised by a host reset while a bus request is outstanding: R282 "The model gives no meaning to a reset during
  a transaction" (U16 "refuse"; log 8). Safe. -/
  | resetDuringTransaction
  deriving DecidableEq, Repr

/-! ### The state -/

/-- The state of the block, its ports, and what the environment will do. -/
structure State where
  /-- the configuration (R6); no step writes it (log 3) -/
  cfg : Config
  /-- R20 -/
  upc : Upc
  /-- R21 -/
  busy : Bool
  /-- R22 -/
  runState : RunState
  /-- R23 -/
  scanAddr : BitVec 8
  /-- R24 -/
  probeAck : Bool
  /-- R25 -/
  devId : Option Byte
  /-- R26 -/
  idMatch : Bool
  /-- R27 -/
  calStage : CalStage
  /-- R27; bit i is slot i -/
  stageWritten : BitVec 4
  /-- R28 -/
  calibIdx : BitVec 3
  /-- R29 -/
  calRec : Option CalRec
  /-- R30 -/
  calibValid : Bool
  /-- R31 -/
  measState : MeasState
  /-- R32 -/
  raw : Option Half
  /-- R33 -/
  rawValid : Bool
  /-- R34 -/
  x1 : Option (BitVec 32)
  /-- R34 -/
  x2 : Option (BitVec 32)
  /-- R34 -/
  b5 : Option (BitVec 32)
  /-- R34 -/
  t : Option (BitVec 32)
  /-- R35 -/
  cause : Cause
  /-- R36 -/
  faultUpc : Upc
  /-- R37 -/
  faultInfo : Option FaultInfo
  /-- R38 -/
  consecFail : BitVec 8
  /-- the request outstanding on the bus port (R285) -/
  busReq : Option BusReq
  /-- a timer wait is outstanding (R285) -/
  timerWait : Bool
  /-- the elapsed signal of that wait has arrived (R170, R224) -/
  timerSignal : Bool
  /-- the event trace, oldest first (R238) -/
  trace : List Event
  /-- the model's own: the bus's coming turns, the next first (log 1) -/
  busIn : List BusTurn
  /-- the model's own: the environment at the coming step boundaries, the next first (log 2) -/
  ticks : List EnvTick
  deriving DecidableEq, Repr

/-- What a step answers. -/
abbrev Result := Host.Outcome State Fault Refusal

/-- The staging slots with no value (R40). -/
def CalStage.empty : CalStage := ⟨none, none, none, none⟩

/-- The state right after reset (R40, R280, R285). DESIGN CHOICE: the configuration is the reference one (log 3), the
trace is empty (log 5), the environment gives nothing (log 1, 2). -/
def State.reset : State where
  cfg := Config.reference
  upc := 0#9
  busy := false
  runState := .running
  scanAddr := 0#8
  probeAck := false
  devId := none
  idMatch := false
  calStage := CalStage.empty
  stageWritten := 0#4
  calibIdx := 0#3
  calRec := none
  calibValid := false
  measState := .idle
  raw := none
  rawValid := false
  x1 := none
  x2 := none
  b5 := none
  t := none
  cause := .none
  faultUpc := 0#9
  faultInfo := none
  consecFail := 0#8
  busReq := none
  timerWait := false
  timerSignal := false
  trace := []
  busIn := []
  ticks := []

end Sys2Proof.Machine
end

