-- ==== Sys2Proof/Machine/Operands.lean ====
section
/-! DEFINITION. Operand forms: the requests the ops issue (30_encoding.md R78), register pointers and slots (42_calibration.md
R147), byte order (20_memory.md R54, R55), and the integer primitives of 00_scope.md R9. -/

namespace Sys2Proof.Machine

/-! ### Byte order -/

/-- The i16 of two bytes, the first the more significant (R54, R144 `be16`). -/
def be16 (b0 b1 : Byte) : Half :=
  b0 ++ b1

/-- `raw <- b ++ 0x00` (R165). -/
def rawFromMsb (b : Byte) : Half :=
  b ++ 0x00#8

/-- `raw <- raw[15:8] ++ b` (R167). -/
def rawWithLsb (raw : Half) (b : Byte) : Half :=
  raw.extractLsb' 8 8 ++ b

/-! ### Integer primitives (R9) -/

/-- `s16(u)`: the two's-complement reading of a u16. -/
def s16 (u : Half) : Int :=
  u.toInt

/-- `shl(v, n) = v * 2^n`. -/
def shl (v : Int) (n : Nat) : Int :=
  v * 2 ^ n

/-- `asr(v, n) = floor(v / 2^n)` (R191): Lean's `/` rounds down for a positive divisor. -/
def asr (v : Int) (n : Nat) : Int :=
  v / 2 ^ n

/-- `tdiv(a, b) = sign(a)*sign(b)*floor(|a|/|b|)` for `b ≠ 0` (R192). -/
def tdiv (a b : Int) : Int :=
  a.sign * b.sign * ((a.natAbs / b.natAbs : Nat) : Int)

/-- The i32 register that holds `v`; exact for every value of R190's table (log 13). -/
def i32 (v : Int) : BitVec 32 :=
  BitVec.ofInt 32 v

/-! ### Requests (R78) -/

/-- `{WRITE, a, [PROBE_BYTE], 0}`. -/
def probeReq (c : Config) (a : BusAddr) : BusReq :=
  ⟨.write, a, [c.probeByte], 0⟩

/-- `{WTR, SENSOR_ADDR, [p], n}`. -/
def readReq (p : Byte) (n : Nat) : BusReq :=
  ⟨.wtr, sensorAddr, [p], n⟩

/-- `{WRITE, SENSOR_ADDR, [0xF4, 0x2E], 0}`. -/
def triggerReq : BusReq :=
  ⟨.write, sensorAddr, [regCtrl, ctrlTemp], 0⟩

/-- The response `Ok(rdata)`: exactly `rlen` bytes of those the bus offers (R77, R101 to R103). -/
def okResp (req : BusReq) (b0 b1 : Byte) : BusResp :=
  .ok ([b0, b1].take req.rlen)

/-! ### Slots (R147) -/

/-- PTR[i]. -/
def slotPtr : Slot → Byte
  | .ac5 => regAc5
  | .ac6 => regAc6
  | .mc => regMc
  | .md => regMd

/-- The slot READ_CALIB reads at progress `i`; none once it is time to commit (R28, R148). -/
def slotOfIdx (i : BitVec 3) : Option Slot :=
  if i = 0#3 then some .ac5
  else if i = 1#3 then some .ac6
  else if i = 2#3 then some .mc
  else if i = 3#3 then some .md
  else none

/-- The value of a slot. -/
def CalStage.get (c : CalStage) : Slot → Option Half
  | .ac5 => c.ac5
  | .ac6 => c.ac6
  | .mc => c.mc
  | .md => c.md

/-- `cal_stage[s] <- v`. -/
def CalStage.set (c : CalStage) (slot : Slot) (v : Half) : CalStage :=
  match slot with
  | .ac5 => { c with ac5 := some v }
  | .ac6 => { c with ac6 := some v }
  | .mc => { c with mc := some v }
  | .md => { c with md := some v }

/-- The record of the four slots, when each holds a value (R146, R148). -/
def CalStage.toRec (c : CalStage) : Option CalRec :=
  match c.ac5, c.ac6, c.mc, c.md with
  | some ac5, some ac6, some mc, some md => some ⟨ac5, ac6, mc, md⟩
  | _, _, _, _ => none

/-! ### Codes -/

/-- The numeric codes of R31. -/
def MeasState.code : MeasState → BitVec 3
  | .idle => 0#3
  | .triggered => 1#3
  | .converting => 2#3
  | .readMsb => 3#3
  | .readLsb => 4#3
  | .complete => 5#3

/-- The cause codes of R250. -/
def Cause.code : Cause → BitVec 8
  | .none => 0x00#8
  | .busAddrNack => 0x01#8
  | .busDataNack => 0x02#8
  | .busTransport => 0x03#8
  | .formulaDiv0 => 0x04#8
  | .seqError => 0x05#8
  | .illegalOp => 0x06#8

/-- The tags of R86. -/
def Record.tag : Record → Byte
  | .scanStart => 0x01#8
  | .found _ => 0x02#8
  | .idIs _ => 0x03#8
  | .idUndetected => 0x04#8
  | .ac5 _ => 0x05#8
  | .ac6 _ => 0x06#8
  | .mc _ => 0x07#8
  | .md _ => 0x08#8
  | .temp _ => 0x09#8
  | .cycleError _ => 0x0A#8

/-- The value of a record as an integer, where its tag has one (R85, R86). -/
def Record.value : Record → Option Int
  | .scanStart | .idUndetected => none
  | .found a => some a.toNat
  | .idIs id => some id.toNat
  | .ac5 v | .ac6 v | .mc v | .md v => some v.toInt
  | .temp v => some v.toInt
  | .cycleError c => some c.code.toNat

end Sys2Proof.Machine
end

