-- ==== Sys2Proof/Machine/Flags.lean ====
section
/-! DEFINITION. The status bits (10_state.md R42): the block has no condition codes; these are the computations of
`probe_ack`, `id_match`, `stage_written`, `raw_valid` and `calib_valid`, and the registers their valid bits guard. -/

namespace Sys2Proof.Machine

/-- `id_match` of a byte that was read (R26, R141). -/
def idMatches (b : Byte) : Bool :=
  b == expectedId

/-- The bit of `stage_written` that belongs to a slot (R27). -/
def stageBit : Slot → BitVec 4
  | .ac5 => 0b0001#4
  | .ac6 => 0b0010#4
  | .mc => 0b0100#4
  | .md => 0b1000#4

/-- `stage_written[s] <- 1` (R145). -/
def stageMark (written : BitVec 4) (slot : Slot) : BitVec 4 :=
  written ||| stageBit slot

/-- All four slots written (R146). -/
def stageFull (written : BitVec 4) : Bool :=
  written == 0b1111#4

/-- The raw value an op may read: present and marked valid (R33, R39; log 10). -/
def State.validRaw (s : State) : Option Half :=
  if s.rawValid then s.raw else none

/-- The calibration record an op may read: present and marked valid (R30, R39; log 10). -/
def State.validCal (s : State) : Option CalRec :=
  if s.calibValid then s.calRec else none

/-- `meas_state` lets a cycle begin (R161, R171, R172). -/
def MeasState.mayTrigger : MeasState → Bool
  | .idle | .complete => true
  | .triggered | .converting | .readMsb | .readLsb => false

end Sys2Proof.Machine
end

