-- ==== Sys2Proof/Machine/Ops.lean ====
section
/-! DEFINITION. The shared operations of the sequencer: ending an op, emitting, taking a fault (60_exceptions.md R258),
one bus transaction (40_transport.md), the timer's two interactions (43_measurement.md R170), the step boundary, host reset
and fetch. -/

namespace Sys2Proof.Machine

/-! ### Ending an op, appending events -/

/-- `done` (R222). -/
def State.done (s : State) : State :=
  { s with busy := false, upc := s.upc + 1#9 }

/-- The events happen, in this order, after those of the trace (R238). -/
def State.log (s : State) (es : List Event) : State :=
  { s with trace := s.trace ++ es }

/-- `Emit` (R85): never blocks, never fails. -/
def State.emit (s : State) (r : Record) : State :=
  s.log [.report r]

/-! ### Taking a fault -/

/-- `bus_cause(k)` (R251). -/
def busCause : ErrKind → Cause
  | .addrNack => .busAddrNack
  | .dataNack => .busDataNack
  | .transport => .busTransport

/-- The class of a failure (R256), from the faulting op and the cause. The scanner's bus errors are absorbed, and so is
a bus cause of an op that R256 gives no class (no op has one; log 18). -/
def failClass (op : Byte) (c : Cause) : FaultClass :=
  match c with
  | .seqError | .illegalOp => .fatal
  | .formulaDiv0 => .cycle
  | .none => .absorbed
  | .busAddrNack | .busDataNack | .busTransport =>
    if op = 0x04#8 ∨ op = 0x05#8 ∨ op = 0x07#8 then .startup
    else if op = 0x08#8 ∨ op = 0x0A#8 ∨ op = 0x0B#8 ∨ op = 0x0C#8 then .cycle
    else .absorbed

/-- `min(n + 1, 255)` (R38, R258). -/
def satInc (n : BitVec 8) : BitVec 8 :=
  if n = 255#8 then 255#8 else n + 1#8

/-- The saved registers of R258: what every fault writes before its class is asked. -/
def State.saveFault (s : State) (c : Cause) (info : FaultInfo) : State :=
  { s with cause := c, faultUpc := s.upc, faultInfo := some info, busy := false }

/-- The reaction to a CYCLE fault under CONTINUE (R258, R259). -/
def State.failCycle (s : State) (c : Cause) : State :=
  if s.cfg.maxConsecFail ≤ satInc s.consecFail then
    { s.emit (.cycleError c) with consecFail := satInc s.consecFail, runState := .halted }
  else
    { s.emit (.cycleError c) with
      consecFail := satInc s.consecFail
      measState := .idle
      rawValid := false
      upc := s.cfg.resumeUpc.setWidth 9 }

/-- `raise Fault(c, info)` (R258). An ABSORBED failure is no fault (R256). -/
def raiseFault (c : Cause) (info : FaultInfo) (s : State) : State :=
  match failClass info.op c, s.cfg.failPolicy with
  | .absorbed, _ => s
  | .cycle, .cont => (s.saveFault c info).failCycle c
  | .cycle, .halt | .startup, _ | .fatal, _ => { s.saveFault c info with runState := .halted }

/-- A failed precondition (R254). -/
def seqFault (op : Byte) (s : State) : State :=
  raiseFault .seqError { op := op } s

/-- A failed transaction of the sensor (R141, R145, R161, R165, R167). -/
def busFault (op ptr : Byte) (k : ErrKind) (s : State) : State :=
  raiseFault (busCause k) { op := op, busAddr := some sensorAddr, ptr := some ptr, err := some k } s

/-- The division of the formula has divisor 0 (R196, R199, R252). -/
def divFault (op : Byte) (s : State) : State :=
  raiseFault .formulaDiv0 { op := op } s

/-! ### The bus -/

/-- The transaction has its response: the bus's turn is used up, no request is outstanding, the event is in the trace. -/
def State.answered (s : State) (req : BusReq) (resp : BusResp) (rest : List BusTurn) : State :=
  { s with busIn := rest, busReq := none, trace := s.trace ++ [.bus req resp] }

/-- The request is outstanding and nothing else happens: the step that needs the answer is not taken (R111, R224; log 4, 20). -/
def State.awaiting (s : State) (req : BusReq) (rest : List BusTurn) : State :=
  { s with busIn := rest, busReq := some req }

/-- One transaction (R59, R106): the step goes on with the bytes of `Ok` or with the kind of `Err`, or waits. -/
def transact (req : BusReq) (s : State) (onOk : Byte → Byte → State → State) (onErr : ErrKind → State → State) :
    Result :=
  match s.busIn with
  | .ack b0 b1 :: rest => .next (onOk b0 b1 (s.answered req (okResp req b0 b1) rest))
  | .nack k :: rest => .next (onErr k (s.answered req (.err k) rest))
  | .hold :: rest => .next (s.awaiting req rest)
  | [] => .next (s.awaiting req [])

/-! ### The timer -/

/-- `TimerStart()` (R170): a new wait is outstanding; a signal of an earlier wait does not count for it (R285; log 9). -/
def State.startTimer (s : State) : State :=
  { s with timerWait := true, timerSignal := false, trace := s.trace ++ [.timerStart] }

/-- `TimerAwait()` consumes the elapsed signal (R170, R238). -/
def State.takeElapsed (s : State) : State :=
  { s with timerWait := false, timerSignal := false, trace := s.trace ++ [.timerElapsed] }

/-- The TimerAwait step: enabled only once the signal has arrived (R163, R224); else nothing happens (log 4). -/
def awaitTimer (s : State) (k : State → State) : Result :=
  if s.timerSignal then .next (k s.takeElapsed) else .next s

/-! ### The step boundary -/

/-- The host asserts reset at this boundary (R281). -/
def resetDue (s : State) : Bool :=
  s.ticks.head? == some .reset

/-- Host reset (R40, R281): every state element at its reset value, the event `Reset` in the trace, the configuration and
the environment's inputs as they were (log 21). While a request is outstanding it has no meaning (R282; log 8). -/
def hostReset (s : State) : Result :=
  if s.busReq.isSome then .refused .resetDuringTransaction
  else .next { State.reset with
    cfg := s.cfg, trace := s.trace ++ [.reset], busIn := s.busIn, ticks := s.ticks.tail }

/-- What the timer does at this boundary: an elapsed signal counts for an outstanding wait only (R170, R285; log 9). -/
def atBoundary (s : State) : State :=
  match s.ticks with
  | .elapsed :: rest => { s with ticks := rest, timerSignal := s.timerSignal || s.timerWait }
  | _ => { s with ticks := s.ticks.tail }

/-- The configuration is none that U15 refuses (R6, U15; log 7). -/
def configAccepted (c : Config) : Bool :=
  c.wf

/-! ### Fetch -/

/-- Fetch and decode (R220, R223): the op at `upc`, or the `fault_info` of the ILLEGAL_OP it raises. -/
def fetch (s : State) : Except FaultInfo Instr :=
  match s.cfg.rom[s.upc.toNat]? with
  | none => .error { op := 0x00#8 }
  | some w =>
    match decode w with
    | .error _ => .error { op := (fieldsOf w).opc, word := some w }
    | .ok i => .ok i

/-- The word a table row of `nbits` bits stands for. -/
def tableWord (nbits w : Nat) : Word :=
  BitVec.ofNat 32 (w % 2 ^ nbits)

/-- The ROM index a word is placed at for the next fetch. -/
def fetchSlot (upc : Upc) : Nat :=
  if upc.toNat < 256 then upc.toNat else 0

/-- The ROM with `w` at index `n`, lengthened with zero words where it does not reach both `n` and `last`. -/
def placeWord (rom : List Word) (n last : Nat) (w : Word) : List Word :=
  (rom ++ List.replicate (max n last + 1 - rom.length) 0#32).set n w

end Sys2Proof.Machine
end

