-- ==== Sys2Proof/Machine/Calibration.lean ====
section
/-! DEFINITION. READ_ID, READ_REG16, COMMIT_CALIB, READ_CALIB (42_calibration.md R141 to R148). -/

namespace Sys2Proof.Machine

/-- A byte came back from the identification register (R141). -/
def State.identified (s : State) (b : Byte) : State :=
  let s := { s with devId := some b, idMatch := idMatches b }
  if idMatches b then s.emit (.idIs b) else s.emit .idUndetected

/-- The identity read failed (R141, R143). -/
def State.idReadFailed (s : State) (k : ErrKind) : State :=
  match s.cfg.idReadFailMode with
  | .fatal => busFault 0x04#8 regId k s
  | .reportUndetected => ({ s with idMatch := false }.emit .idUndetected).done

/-- READ_ID (R141). -/
def execReadId (s : State) : Result :=
  transact (readReq regId 1) s
    (fun b _ s => (s.identified b).done)
    (fun k s => s.idReadFailed k)

/-- A 16-bit register goes into its staging slot (R145, R148). -/
def State.stage (s : State) (slot : Slot) (b0 b1 : Byte) : State :=
  { s with calStage := s.calStage.set slot (be16 b0 b1), stageWritten := stageMark s.stageWritten slot }

/-- READ_REG16 p, s (R145). -/
def execReadReg16 (p : Byte) (slot : Slot) (s : State) : Result :=
  transact (readReq p 2) s
    (fun b0 b1 s => (s.stage slot b0 b1).done)
    (fun k s => busFault 0x05#8 p k s)

/-- The record is written whole (R146, R148). -/
def State.commit (s : State) (cal : CalRec) : State :=
  { s with calRec := some cal, calibValid := true, stageWritten := 0b0000#4 }

/-- COMMIT_CALIB (R146). -/
def execCommitCalib (s : State) : Result :=
  if s.calibValid || !stageFull s.stageWritten then .next (seqFault 0x06#8 s)
  else match s.calStage.toRec with
    | some cal => .next (s.commit cal).done
    | none => .next (seqFault 0x06#8 s)

/-- READ_CALIB's first step initialises (R148). -/
def State.enterCalib (s : State) : State :=
  if s.busy then s else { s with calibIdx := 0#3, stageWritten := 0b0000#4, busy := true }

/-- READ_CALIB's progress, in its first step 0 (R148). -/
def State.calibStep (s : State) : BitVec 3 :=
  if s.busy then s.calibIdx else 0#3

/-- One constant has been read (R148). -/
def State.calibRead (s : State) (slot : Slot) (i : BitVec 3) (b0 b1 : Byte) : State :=
  { s.enterCalib.stage slot b0 b1 with calibIdx := i + 1#3 }

/-- The four records, in this order (R148; 90_conflicts.md C2). -/
def calibRecords (cal : CalRec) : List Event :=
  [.report (.ac5 cal.ac5), .report (.ac6 cal.ac6), .report (.mc cal.mc), .report (.md cal.md)]

/-- READ_CALIB's last step: commit and report (R148). -/
def commitAndReport (s : State) : Result :=
  match s.calStage.toRec with
  | some cal => .next ((s.commit cal).log (calibRecords cal)).done
  | none => .next (seqFault 0x07#8 s)

/-- READ_CALIB (R148). -/
def execReadCalib (s : State) : Result :=
  if !s.busy && s.calibValid then .next (seqFault 0x07#8 s)
  else match slotOfIdx s.calibStep with
    | some slot =>
      transact (readReq (slotPtr slot) 2) s
        (fun b0 b1 u => u.calibRead slot s.calibStep b0 b1)
        (fun k u => busFault 0x07#8 (slotPtr slot) k u.enterCalib)
    | none => commitAndReport s

end Sys2Proof.Machine
end

