-- ==== Sys2Proof/Machine/Arith.lean ====
section
/-! DEFINITION. The compensation formula (44_compensation.md R190 to R193), line by line and whole. -/

namespace Sys2Proof.Machine

/-- First line: `asr((s16(raw) - ac6) * ac5, 15)` (R193, R195). -/
def formulaX1 (raw : Half) (cal : CalRec) : BitVec 32 :=
  i32 (asr ((s16 raw - s16 cal.ac6) * s16 cal.ac5) 15)

/-- The divisor of the second line: `x1 + md` (R193, R196). -/
def formulaDivisor (x1 : BitVec 32) (cal : CalRec) : Int :=
  x1.toInt + s16 cal.md

/-- Second line: `tdiv(shl(mc, 11), x1 + md)`, for a divisor other than 0 (R193, R196). -/
def formulaX2 (x1 : BitVec 32) (cal : CalRec) : BitVec 32 :=
  i32 (tdiv (shl (s16 cal.mc) 11) (formulaDivisor x1 cal))

/-- Third line: `x1 + x2` (R193, R197). -/
def formulaB5 (x1 x2 : BitVec 32) : BitVec 32 :=
  i32 (x1.toInt + x2.toInt)

/-- Fourth line: `tdiv(asr(b5 + 8, 4), 10)` (R193, R198, R201). -/
def formulaT (b5 : BitVec 32) : BitVec 32 :=
  i32 (tdiv (asr (b5.toInt + 8) 4) 10)

/-- What `Comp` returns (R193). -/
inductive CompResult where
  | ok (x1 x2 b5 t : BitVec 32)
  | div0 (x1 : BitVec 32)
  deriving DecidableEq, Repr

/-- `Comp(raw, cal)` (R193); it depends on its arguments only (R194). -/
def comp (raw : Half) (cal : CalRec) : CompResult :=
  let x1 := formulaX1 raw cal
  if formulaDivisor x1 cal = 0 then .div0 x1
  else
    let x2 := formulaX2 x1 cal
    let b5 := formulaB5 x1 x2
    .ok x1 x2 b5 (formulaT b5)

end Sys2Proof.Machine
end

