-- ==== Sys2Proof/Machine/Compensation.lean ====
section
/-! DEFINITION. CMP_X1, CMP_X2, CMP_B5, CMP_T, COMPENSATE (44_compensation.md R195 to R199). -/

namespace Sys2Proof.Machine

/-- CMP_X1 (R195). -/
def execCmpX1 (s : State) : Result :=
  match s.validRaw, s.validCal with
  | some raw, some cal => .next { s with x1 := some (formulaX1 raw cal) }.done
  | _, _ => .next (seqFault 0x0D#8 s)

/-- CMP_X2 (R196). -/
def execCmpX2 (s : State) : Result :=
  match s.x1, s.validCal with
  | some x1, some cal =>
    if formulaDivisor x1 cal = 0 then .next (divFault 0x0E#8 s)
    else .next { s with x2 := some (formulaX2 x1 cal) }.done
  | _, _ => .next (seqFault 0x0E#8 s)

/-- CMP_B5 (R197). -/
def execCmpB5 (s : State) : Result :=
  match s.x1, s.x2 with
  | some x1, some x2 => .next { s with b5 := some (formulaB5 x1 x2) }.done
  | _, _ => .next (seqFault 0x0F#8 s)

/-- CMP_T (R198). -/
def execCmpT (s : State) : Result :=
  match s.b5 with
  | some b5 => .next { s with t := some (formulaT b5), consecFail := 0#8 }.done
  | none => .next (seqFault 0x10#8 s)

/-- The cycle has its temperature (R199). -/
def State.compensated (s : State) (x1 x2 b5 t : BitVec 32) : State :=
  { s with x1 := some x1, x2 := some x2, b5 := some b5, t := some t, consecFail := 0#8 }

/-- COMPENSATE (R199). On a divisor of 0 nothing but the fault state is written. -/
def execCompensate (s : State) : Result :=
  match s.validRaw, s.validCal with
  | some raw, some cal =>
    match comp raw cal with
    | .ok x1 x2 b5 t => .next (s.compensated x1 x2 b5 t).done
    | .div0 _ => .next (divFault 0x11#8 s)
  | _, _ => .next (seqFault 0x11#8 s)

end Sys2Proof.Machine
end

