-- ==== Sys2Proof/Machine/Measurement.lean ====
section
/-! DEFINITION. TRIGGER, WAIT_CONV, READ_MSB, READ_LSB, MEASURE (43_measurement.md R161 to R172). The four phases are
shared; each takes the opcode its fault names and what ends its step. -/

namespace Sys2Proof.Machine

/-- The trigger write (R161, R172). `raw_valid` is cleared whether or not it succeeds. -/
def triggerPhase (op : Byte) (fin : State → State) (s : State) : Result :=
  transact triggerReq s
    (fun _ _ s => fin { s with rawValid := false, measState := .triggered })
    (fun k s => busFault op regCtrl k { s with rawValid := false })

/-- The wait begins (R163, R172). -/
def startPhase (s : State) : State :=
  { s.startTimer with measState := .converting }

/-- The wait ends (R163, R172). -/
def awaitPhase (fin : State → State) (s : State) : Result :=
  awaitTimer s fun s => fin { s with measState := .readMsb }

/-- The high byte (R165, R172). -/
def msbPhase (op : Byte) (fin : State → State) (s : State) : Result :=
  transact (readReq regMsb 1) s
    (fun b _ s => fin { s with raw := some (rawFromMsb b), measState := .readLsb })
    (fun k s => busFault op regMsb k s)

/-- The low byte (R167, R172). The high byte must be there (R39; log 10). -/
def lsbPhase (op : Byte) (fin : State → State) (s : State) : Result :=
  match s.raw with
  | none => .next (seqFault op s)
  | some raw =>
    transact (readReq regLsb 1) s
      (fun b _ s => fin { s with raw := some (rawWithLsb raw b), rawValid := true, measState := .complete })
      (fun k s => busFault op regLsb k s)

/-- TRIGGER (R161). -/
def execTrigger (s : State) : Result :=
  if s.measState.mayTrigger then triggerPhase 0x08#8 State.done s else .next (seqFault 0x08#8 s)

/-- WAIT_CONV (R163): two steps. -/
def execWaitConv (s : State) : Result :=
  if s.busy then awaitPhase State.done s
  else if s.measState = .triggered then .next { startPhase s with busy := true }
  else .next (seqFault 0x09#8 s)

/-- READ_MSB (R165). -/
def execReadMsb (s : State) : Result :=
  if s.measState = .readMsb then msbPhase 0x0A#8 State.done s else .next (seqFault 0x0A#8 s)

/-- READ_LSB (R167). -/
def execReadLsb (s : State) : Result :=
  if s.measState = .readLsb then lsbPhase 0x0B#8 State.done s else .next (seqFault 0x0B#8 s)

/-- MEASURE's first step leaves the op in progress (R172). -/
def State.beginMeasure (s : State) : State :=
  { s with busy := true }

/-- A later step of MEASURE, by `meas_state` (R172). In IDLE and COMPLETE no branch of the rule applies and nothing
happens; no run reaches that (log 11). -/
def measureOn (s : State) : Result :=
  match s.measState with
  | .triggered => .next (startPhase s)
  | .converting => awaitPhase id s
  | .readMsb => msbPhase 0x0C#8 id s
  | .readLsb => lsbPhase 0x0C#8 State.done s
  | .idle | .complete => .next s

/-- MEASURE (R172): five steps. -/
def execMeasure (s : State) : Result :=
  if s.busy then measureOn s
  else if s.measState.mayTrigger then triggerPhase 0x0C#8 State.beginMeasure s
  else .next (seqFault 0x0C#8 s)

end Sys2Proof.Machine
end

