-- ==== Sys2Proof/Machine/Scanner.lean ====
section
/-! DEFINITION. PROBE and SCAN (41_scanner.md R122, R124). -/

namespace Sys2Proof.Machine

/-- The outcome of a probe of `a` (R122, R124): found and reported, or absorbed. -/
def State.probed (s : State) (a : BusAddr) (ack : Bool) : State :=
  if ack then { s with probeAck := true }.emit (.found a) else { s with probeAck := false }

/-- PROBE a (R122). -/
def execProbe (a : BusAddr) (s : State) : Result :=
  transact (probeReq s.cfg a) s
    (fun _ _ s => (s.probed a true).done)
    (fun _ s => (s.probed a false).done)

/-- The address SCAN probes in this step: 0 in its first step (R124). -/
def State.scanTarget (s : State) : BitVec 8 :=
  if s.busy then s.scanAddr else scanFirst

/-- The rest of a SCAN step after the probe of `a` (R124): the last address ends the op. -/
def State.scanned (s : State) (a : BitVec 8) (ack : Bool) : State :=
  let s := { s.probed (a.setWidth 7) ack with busy := true, scanAddr := a + 1#8 }
  if a = scanLast then s.done else s

/-- SCAN (R124): one address a step. -/
def execScan (s : State) : Result :=
  transact (probeReq s.cfg (s.scanTarget.setWidth 7)) s
    (fun _ _ u => u.scanned s.scanTarget true)
    (fun _ u => u.scanned s.scanTarget false)

end Sys2Proof.Machine
end

