-- ==== Sys2Proof/Machine/Sequencer.lean ====
section
/-! DEFINITION. REPORT, JMP, HALT (45_sequencer.md R233 to R235). -/

namespace Sys2Proof.Machine

/-- Emit a record whose value is held in state, or raise SEQ_ERROR where it holds none (R233). -/
def reportHeld (r : Option Record) (s : State) : Result :=
  match r with
  | some r => .next (s.emit r).done
  | none => .next (seqFault 0x01#8 s)

/-- The record REPORT emits for a tag, where its precondition holds (R233). -/
def State.recordFor (s : State) : ReportTag → Option Record
  | .scanStart => some .scanStart
  | .ac5 => s.validCal.map fun c => .ac5 c.ac5
  | .ac6 => s.validCal.map fun c => .ac6 c.ac6
  | .mc => s.validCal.map fun c => .mc c.mc
  | .md => s.validCal.map fun c => .md c.md
  | .temp => s.t.map .temp

/-- REPORT tag (R233). -/
def execReport (tag : ReportTag) (s : State) : Result :=
  reportHeld (s.recordFor tag) s

/-- JMP n (R234). -/
def execJmp (n : Byte) (s : State) : Result :=
  .next { s with busy := false, upc := n.setWidth 9 }

/-- HALT (R235). -/
def execHalt (s : State) : Result :=
  .next { s with busy := false, runState := .halted }

end Sys2Proof.Machine
end

