-- ==== Sys2Proof/Machine/Dispatch.lean ====
section
/-! DEFINITION. One arm per op (30_encoding.md R73). -/

namespace Sys2Proof.Machine

def exec (i : Instr) (s : State) : Host.Outcome State Fault Refusal :=
  match i with
  | .report tag => Sys2Proof.Machine.execReport tag s
  | .probe a => Sys2Proof.Machine.execProbe a s
  | .scan => Sys2Proof.Machine.execScan s
  | .readId => Sys2Proof.Machine.execReadId s
  | .readReg16 p slot => Sys2Proof.Machine.execReadReg16 p slot s
  | .commitCalib => Sys2Proof.Machine.execCommitCalib s
  | .readCalib => Sys2Proof.Machine.execReadCalib s
  | .trigger => Sys2Proof.Machine.execTrigger s
  | .waitConv => Sys2Proof.Machine.execWaitConv s
  | .readMsb => Sys2Proof.Machine.execReadMsb s
  | .readLsb => Sys2Proof.Machine.execReadLsb s
  | .measure => Sys2Proof.Machine.execMeasure s
  | .cmpX1 => Sys2Proof.Machine.execCmpX1 s
  | .cmpX2 => Sys2Proof.Machine.execCmpX2 s
  | .cmpB5 => Sys2Proof.Machine.execCmpB5 s
  | .cmpT => Sys2Proof.Machine.execCmpT s
  | .compensate => Sys2Proof.Machine.execCompensate s
  | .jmp n => Sys2Proof.Machine.execJmp n s
  | .halt => Sys2Proof.Machine.execHalt s

end Sys2Proof.Machine
end

