-- ==== Sys2Proof/Machine/Step.lean ====
section
/-! DEFINITION. One step (45_sequencer.md R220, R223, R224; 70_reset_and_hazards.md R281), and where a program stands. -/

namespace Sys2Proof.Machine

/-- Fetch, decode, execute (R220, R223). An illegal fetch or word raises ILLEGAL_OP (R255). -/
def fetchAndExec (s : State) : Host.Outcome State Fault Refusal :=
  match fetch s with
  | .error info => .next (raiseFault .illegalOp info s)
  | .ok i => exec i s

/-- One step. A reset of the host takes the place of a step (R281); a halted block takes none (R22, R224; log 4). -/
def step (s : State) : Host.Outcome State Fault Refusal :=
  if !configAccepted s.cfg then .fault .configOutsideType
  else if resetDue s then hostReset s
  else if s.runState = .halted then .next (atBoundary s)
  else fetchAndExec (atBoundary s)

/-- `s` with the word where `step` fetches its next op: in the ROM at `upc` (R220), with the block RUNNING and no reset
due at the next boundary. A `upc` that no ROM reaches (256 or more; R6) is set to 0 first. The ROM is otherwise the
configuration's, lengthened with zero words up to RESUME_UPC where it is shorter, as U15 asks (log 6, 7). -/
def State.withFetchWord (s : State) (nbits w : Nat) : State :=
  { s with
    cfg := { s.cfg with rom := placeWord s.cfg.rom (fetchSlot s.upc) s.cfg.resumeUpc.toNat (tableWord nbits w) }
    upc := BitVec.ofNat 9 (fetchSlot s.upc)
    runState := .running
    ticks := s.ticks.dropWhile (· == .reset) }

end Sys2Proof.Machine
end

