-- ==== Sys2Proof/Machine/Sink.lean ====
section
/-! DEFINITION. The report sink's contract (30_encoding.md R86, R87): a record as a line of text. No op reads it. Lines are
lists of characters; the line terminator, OPEN in R87, is not part of one (log 17). -/

namespace Sys2Proof.Machine

/-- `<n>`: signed decimal (R87, decision D5). -/
def decimal (n : Int) : List Char :=
  if n < 0 then '-' :: Nat.toDigits 10 n.natAbs else Nat.toDigits 10 n.natAbs

/-- One hexadecimal digit (R87). -/
def hexDigit (h : HexCase) (n : Nat) : Char :=
  match h with
  | .upper => ['0', '1', '2', '3', '4', '5', '6', '7', '8', '9', 'A', 'B', 'C', 'D', 'E', 'F'].getD n '0'
  | .lower => ['0', '1', '2', '3', '4', '5', '6', '7', '8', '9', 'a', 'b', 'c', 'd', 'e', 'f'].getD n '0'

/-- `0xNN`: two digits (R87). -/
def hexAddr (h : HexCase) (a : BusAddr) : List Char :=
  ['0', 'x', hexDigit h (a.toNat / 16), hexDigit h (a.toNat % 16)]

/-- The line of a record (R86, R87). The text of CYCLE_ERROR is OPEN: an argument. -/
def renderLine (h : HexCase) (cycleErrorText : Cause → List Char) : Record → List Char
  | .scanStart => "Starting I2C Scan".toList
  | .found a => "Found device at address ".toList ++ hexAddr h a
  | .idIs id => "Device ID is ".toList ++ decimal id.toNat
  | .idUndetected => "Device ID Cannot be Detected".toList
  | .ac5 v => "AC5 = ".toList ++ decimal v.toInt
  | .ac6 v => "AC6 = ".toList ++ decimal v.toInt
  | .mc v => "MC = ".toList ++ decimal v.toInt
  | .md v => "MD = ".toList ++ decimal v.toInt
  | .temp v => "Temperature = ".toList ++ decimal v.toInt
  | .cycleError c => cycleErrorText c

/-- The lines a run has printed, in order: one per record of the trace (R85, R87), in the configuration's HEX_CASE. -/
def State.printed (s : State) (cycleErrorText : Cause → List Char) : List (List Char) :=
  s.trace.filterMap fun e =>
    match e with
    | .report r => some (renderLine s.cfg.hexCase cycleErrorText r)
    | .bus _ _ | .timerStart | .timerElapsed | .reset => none

end Sys2Proof.Machine
end

