-- ==== Sys2Proof/Safety.lean ====
section
/-! DEFINITION. The terms claims are stated in: the observation (45_sequencer.md R238), when a step is enabled (R224), the
request of a step (30_encoding.md R78), the preconditions (60_exceptions.md R254), the events a step may append (R221), the
measurement protocol as a property of the trace (43_measurement.md R160, R168), and the invariants. -/

namespace Sys2Proof.Machine

/-! ### Observation -/

/-- What the environment can observe (R238): the trace, and of a halted run the fault registers. -/
structure Observation where
  trace : List Event
  haltedWith : Option (Cause × Upc × Option FaultInfo)
  deriving DecidableEq, Repr

/-- The observation of a run that has reached `s` (R238, R239). -/
def observe (s : State) : Observation where
  trace := s.trace
  haltedWith := if s.runState = .halted then some (s.cause, s.faultUpc, s.faultInfo) else none

/-- `n` executions of one op, one after another. -/
def execTimes (i : Instr) : Nat → State → Result
  | 0, s => .next s
  | n + 1, s =>
    match exec i s with
    | .next t => execTimes i n t
    | .fault f => .fault f
    | .refused r => .refused r

/-- The ops of a list, one execution of each, in order. -/
def execSeq : List Instr → State → Result
  | [], s => .next s
  | i :: is, s =>
    match exec i s with
    | .next t => execSeq is t
    | .fault f => .fault f
    | .refused r => .refused r

/-! ### When a step is enabled -/

/-- The request the op's next step issues, if it issues one (R78 and the ops' preconditions). -/
def busRequest (i : Instr) (s : State) : Option BusReq :=
  match i with
  | .probe a => some (probeReq s.cfg a)
  | .scan => some (probeReq s.cfg (s.scanTarget.setWidth 7))
  | .readId => some (readReq 0xD0#8 1)
  | .readReg16 p _ => some (readReq p 2)
  | .readCalib =>
    if !s.busy && s.calibValid then none
    else (slotOfIdx s.calibStep).map fun slot => readReq (slotPtr slot) 2
  | .trigger => if s.measState.mayTrigger then some triggerReq else none
  | .readMsb => if s.measState = .readMsb then some (readReq 0xF6#8 1) else none
  | .readLsb => if s.measState = .readLsb ∧ s.raw.isSome then some (readReq 0xF7#8 1) else none
  | .measure =>
    if s.busy then
      if s.measState = .readMsb then some (readReq 0xF6#8 1)
      else if s.measState = .readLsb ∧ s.raw.isSome then some (readReq 0xF7#8 1)
      else none
    else if s.measState.mayTrigger then some triggerReq else none
  | .report _ | .commitCalib | .waitConv | .cmpX1 | .cmpX2 | .cmpB5 | .cmpT | .compensate | .jmp _ | .halt => none

/-- The transactions of R58, as R78 writes them out: what an op may put on the bus. -/
def transactionOf (c : Config) (i : Instr) (q : BusReq) : Prop :=
  match i with
  | .probe a => q = ⟨.write, a, [c.probeByte], 0⟩
  | .scan => ∃ a, q = ⟨.write, a, [c.probeByte], 0⟩
  | .readId => q = ⟨.wtr, 0x77#7, [0xD0#8], 1⟩
  | .readReg16 p _ => q = ⟨.wtr, 0x77#7, [p], 2⟩
  | .readCalib => ∃ p ∈ [0xB2#8, 0xB4#8, 0xBC#8, 0xBE#8], q = ⟨.wtr, 0x77#7, [p], 2⟩
  | .trigger => q = ⟨.write, 0x77#7, [0xF4#8, 0x2E#8], 0⟩
  | .readMsb => q = ⟨.wtr, 0x77#7, [0xF6#8], 1⟩
  | .readLsb => q = ⟨.wtr, 0x77#7, [0xF7#8], 1⟩
  | .measure =>
    q = ⟨.write, 0x77#7, [0xF4#8, 0x2E#8], 0⟩ ∨ q = ⟨.wtr, 0x77#7, [0xF6#8], 1⟩ ∨ q = ⟨.wtr, 0x77#7, [0xF7#8], 1⟩
  | .report _ | .commitCalib | .waitConv | .cmpX1 | .cmpX2 | .cmpB5 | .cmpT | .compensate | .jmp _ | .halt => False

/-- The op's next step is a TimerAwait step (R224). -/
def awaitsTimer (i : Instr) (s : State) : Bool :=
  match i with
  | .waitConv => s.busy
  | .measure => s.busy && s.measState == .converting
  | .report _ | .probe _ | .scan | .readId | .readReg16 _ _ | .commitCalib | .readCalib | .trigger | .readMsb
  | .readLsb | .cmpX1 | .cmpX2 | .cmpB5 | .cmpT | .compensate | .jmp _ | .halt => false

/-- The bus has an answer for the next request. -/
def answerReady (s : State) : Bool :=
  match s.busIn with
  | .ack _ _ :: _ | .nack _ :: _ => true
  | .hold :: _ | [] => false

/-- Conditions 2 and 3 of R224 for the op's next step. -/
def opEnabled (i : Instr) (s : State) : Bool :=
  (!awaitsTimer i s || s.timerSignal) && ((busRequest i s).isNone || answerReady s)

/-! ### Preconditions (R254) -/

/-- The table of R254. -/
def precondition (i : Instr) (s : State) : Bool :=
  match i with
  | .commitCalib => !s.calibValid && s.stageWritten == 0b1111#4
  | .readCalib => s.busy || !s.calibValid
  | .trigger => s.measState == .idle || s.measState == .complete
  | .waitConv => s.busy || s.measState == .triggered
  | .readMsb => s.measState == .readMsb
  | .readLsb => s.measState == .readLsb
  | .measure => s.busy || (s.measState == .idle || s.measState == .complete)
  | .cmpX1 | .compensate => s.rawValid && s.calibValid
  | .cmpX2 => s.x1.isSome && s.calibValid
  | .cmpB5 => s.x1.isSome && s.x2.isSome
  | .cmpT => s.b5.isSome
  | .report .scanStart => true
  | .report .ac5 | .report .ac6 | .report .mc | .report .md => s.calibValid
  | .report .temp => s.t.isSome
  | .probe _ | .scan | .readId | .readReg16 _ _ | .jmp _ | .halt => true

/-! ### The events of a step (R221) -/

/-- A bus transaction or a timer interaction. -/
def Event.isInteraction : Event → Bool
  | .bus _ _ | .timerStart | .timerElapsed => true
  | .report _ | .reset => false

/-- A report record. -/
def Event.isReport : Event → Bool
  | .report _ => true
  | .bus _ _ | .timerStart | .timerElapsed | .reset => false

/-- The response has the shape its request asks for (R77, R101 to R103, R107). -/
def admissible (req : BusReq) : BusResp → Bool
  | .ok rdata => rdata.length == req.rlen
  | .err _ => true

/-- What one step may append to the trace: at most one interaction, and first; after it report records only (R221). -/
def stepEventsShape : List Event → Bool
  | [] => true
  | e :: es => (e.isInteraction || e.isReport) && es.all Event.isReport

/-! ### The measurement protocol over the trace -/

/-- Where the cycle stands after an event, and `none` for an event out of its order (R160, R168, R286, R287). -/
def protocolEvent (p : MeasState) : Event → Option MeasState
  | .bus req resp =>
    if req = triggerReq then
      if p.mayTrigger then
        match resp with
        | .ok _ => some .triggered
        | .err _ => some p
      else none
    else if req = readReq 0xF6#8 1 then
      if p = .readMsb then
        match resp with
        | .ok _ => some .readLsb
        | .err _ => some p
      else none
    else if req = readReq 0xF7#8 1 then
      if p = .readLsb then
        match resp with
        | .ok _ => some .complete
        | .err _ => some p
      else none
    else some p
  | .timerStart => if p = .triggered then some .converting else none
  | .timerElapsed => if p = .converting then some .readMsb else none
  | .report (.cycleError _) => some .idle
  | .report _ => some p
  | .reset => some .idle

/-- Where the cycle stands after a trace that began in IDLE; `none` if an event came out of order. -/
def protocolState (es : List Event) : Option MeasState :=
  es.foldl (fun p e => p.bind (protocolEvent · e)) (some .idle)

/-! ### Invariants -/

/-- `stage_written` while READ_CALIB is at progress `i` (R148). -/
def stagedBelow (i : BitVec 3) : BitVec 4 :=
  if i = 0#3 then 0b0000#4
  else if i = 1#3 then 0b0001#4
  else if i = 2#3 then 0b0011#4
  else if i = 3#3 then 0b0111#4
  else 0b1111#4

/-- What holds while a multi-step op is in progress (R221). -/
def inProgress (i : Instr) (s : State) : Prop :=
  match i with
  | .scan => s.scanAddr ≤ 127#8
  | .readCalib => s.calibValid = false ∧ s.stageWritten = stagedBelow s.calibIdx
  | .waitConv => s.measState = .converting
  | .measure => s.measState ≠ .idle ∧ s.measState ≠ .complete
  | .report _ | .probe _ | .readId | .readReg16 _ _ | .commitCalib | .trigger | .readMsb | .readLsb
  | .cmpX1 | .cmpX2 | .cmpB5 | .cmpT | .compensate | .jmp _ | .halt => False

/-- The state is consistent: each valid bit has its value behind it, each progress register is in its range, and a
multi-step op is in progress only where the ROM has one (R20 to R38, R221, R285). -/
structure State.Inv (s : State) : Prop where
  /-- R30 -/
  calib_valid_iff : s.calibValid = true ↔ s.calRec.isSome = true
  /-- R33 -/
  raw_valid_complete : s.rawValid = true → s.measState = .complete ∧ s.raw.isSome = true
  /-- R165, R167 -/
  lsb_has_raw : s.measState = .readLsb → s.raw.isSome = true
  /-- R27 -/
  staged_has_value : ∀ slot, s.stageWritten &&& stageBit slot ≠ 0#4 → (s.calStage.get slot).isSome = true
  /-- R23 -/
  scan_range : s.scanAddr ≤ 128#8
  /-- R28 -/
  calib_idx_range : s.calibIdx ≤ 4#3
  /-- R26 -/
  id_match_only_expected : s.idMatch = true → s.devId = some expectedId
  /-- R26, both directions; under REPORT_UNDETECTED a failed read clears `id_match` and keeps `dev_id` (R141; log 14) -/
  id_match_iff_fatal : s.cfg.idReadFailMode = .fatal → (s.idMatch = true ↔ s.devId = some expectedId)
  /-- R35, R37 -/
  cause_iff_info : s.cause = .none ↔ s.faultInfo = none
  /-- R163, R170 -/
  wait_iff_converting : s.timerWait = true ↔ s.measState = .converting
  /-- R170, R285 -/
  signal_has_wait : s.timerSignal = true → s.timerWait = true
  /-- R163, R171, R172: CONVERTING is a state inside WAIT_CONV or MEASURE -/
  converting_in_wait : s.measState = .converting →
    s.busy = true ∧ (fetch s = .ok .waitConv ∨ fetch s = .ok .measure)
  /-- R22, R258 -/
  halted_at_rest : s.runState = .halted → s.busy = false ∧ s.busReq = none
  /-- R21, R221 -/
  busy_in_progress : s.busy = true → ∃ i, fetch s = .ok i ∧ inProgress i s
  /-- R285 -/
  outstanding_is_next : ∀ q, s.busReq = some q → ∃ i, fetch s = .ok i ∧ busRequest i s = some q

/-- An i32 register is empty or lies between the bounds. -/
def regWithin (lo hi : Int) (r : Option (BitVec 32)) : Prop :=
  ∀ v, r = some v → lo ≤ v.toInt ∧ v.toInt ≤ hi

/-- The registers of the formula lie in the ranges of R190. -/
structure State.FormulaInRange (s : State) : Prop where
  x1_range : regWithin (-65535) 65535 s.x1
  x2_range : regWithin (-67108864) 67108864 s.x2
  b5_range : regWithin (-67174399) 67174399 s.b5
  t_range : regWithin (-419840) 419840 s.t

/-- The trace keeps the measurement protocol, and a running block is where the trace says. -/
structure State.ProtocolKept (s : State) : Prop where
  consistent : s.Inv
  in_order : (protocolState s.trace).isSome = true
  in_step : s.runState = .running → protocolState s.trace = some s.measState

/-- What the reference micro-program has established when it stands at `upc` (R236, R237). -/
structure ReferencePoint (s : State) : Prop where
  startup_no_record : s.upc ≤ 3#9 → s.calibValid = false ∧ s.measState = .idle
  loop_has_record : 4#9 ≤ s.upc → s.calibValid = true
  at_measure : s.upc = 4#9 → s.busy = false → s.measState.mayTrigger = true
  measured : 5#9 ≤ s.upc → s.rawValid = true
  at_report : s.upc = 6#9 → s.t.isSome = true

/-- The block runs the reference ROM (R236) and has met no SEQ_ERROR and no ILLEGAL_OP. -/
structure State.ReferenceRun (s : State) : Prop where
  consistent : s.Inv
  rom_is : s.cfg.rom = referenceRom
  resume_is : s.cfg.resumeUpc = 4#8
  in_rom : s.upc ≤ 7#9
  clean : s.cause ≠ .seqError ∧ s.cause ≠ .illegalOp
  point : s.runState = .running → ReferencePoint s

/-! ### Comparing ops (R173) and runs (R123, R142) -/

/-- Forgets what R173 lets MEASURE and its four ops differ in: `upc` (and the copy a fault saves), `busy`, `fault_info.op`. -/
def State.upToOp (s : State) : State :=
  { s with
    upc := 0#9, busy := false, faultUpc := 0#9
    faultInfo := s.faultInfo.map fun f => { f with op := 0x00#8 } }

/-- The op that makes the transition MEASURE makes from this state of the cycle (R160, R173). -/
def primitiveOf : MeasState → Instr
  | .idle | .complete => .trigger
  | .triggered | .converting => .waitConv
  | .readMsb => .readMsb
  | .readLsb => .readLsb

/-- The state with other identity registers. -/
def State.withIdentity (s : State) (devId : Option Byte) (idMatch : Bool) : State :=
  { s with devId := devId, idMatch := idMatch }

/-- A request without the byte a probe wrote: only probes write one byte and read none (R58). -/
def BusReq.eraseProbe (q : BusReq) : BusReq :=
  if q.kind = .write ∧ q.wdata.length = 1 then { q with wdata := [] } else q

/-- An event without the byte a probe wrote. -/
def Event.eraseProbe : Event → Event
  | .bus req resp => .bus req.eraseProbe resp
  | .timerStart => .timerStart
  | .timerElapsed => .timerElapsed
  | .report r => .report r
  | .reset => .reset

/-- The state with another PROBE_BYTE. -/
def State.withProbeByte (s : State) (b : Byte) : State :=
  { s with cfg := { s.cfg with probeByte := b } }

end Sys2Proof.Machine
end

