-- ==== Sys2Proof/Certificates/Slice0/Obligations.lean ====
section
/-! DEFINITION. The statements for the provers. Each docstring names the rules of spec/ it formalises. In all of them the bus's
answers stand in `busIn` and the timer's and the host's moves in `ticks` (log 1, 2); `step` takes the tick, `exec` the answer. -/

open Sys2Proof Sys2Proof.Machine

/-! ### Reset and configuration -/

/-- R40: the reset value of every element of the table. -/
def Obligations.ResetStateValues : Prop :=
  State.reset.upc = 0#9 ∧ State.reset.busy = false ∧ State.reset.runState = .running ∧
  State.reset.scanAddr = 0#8 ∧ State.reset.probeAck = false ∧
  State.reset.devId = none ∧ State.reset.idMatch = false ∧
  (∀ slot, State.reset.calStage.get slot = none) ∧ State.reset.stageWritten = 0b0000#4 ∧
  State.reset.calibIdx = 0#3 ∧ State.reset.calRec = none ∧ State.reset.calibValid = false ∧
  State.reset.measState = .idle ∧ State.reset.raw = none ∧ State.reset.rawValid = false ∧
  State.reset.x1 = none ∧ State.reset.x2 = none ∧ State.reset.b5 = none ∧ State.reset.t = none ∧
  State.reset.cause.code = 0x00#8 ∧ State.reset.faultUpc = 0#9 ∧ State.reset.faultInfo = none ∧
  State.reset.consecFail = 0#8

/-- R280, R281, R285: a host reset, in RUNNING or in HALTED, restores the reset state, appends `Reset`, and keeps the
configuration. While a request is outstanding it is refused (R282, U16; the model's choice of log 8). The environment's
inputs go on (log 21). -/
def Obligations.HostResetRestoresResetState : Prop :=
  ∀ (s : State) (rest : List EnvTick), s.cfg.wf = true → s.ticks = .reset :: rest →
    (s.busReq = none →
      step s = .next { State.reset with
        cfg := s.cfg, trace := s.trace ++ [.reset], busIn := s.busIn, ticks := rest }) ∧
    (s.busReq ≠ none → step s = .refused .resetDuringTransaction)

/-- R6, U15: a configuration outside the types of R6, or with a RESUME_UPC outside its ROM, takes no step (log 7). -/
def Obligations.ConfigurationOutsideTypeStops : Prop :=
  ∀ s : State,
    s.cfg.rom = [] ∨ 256 < s.cfg.rom.length ∨ s.cfg.maxConsecFail = 0#8 ∨ s.cfg.rom.length ≤ s.cfg.resumeUpc.toNat →
    step s = .fault .configOutsideType

/-- R6, R41, R53, R65, R281: no step, a reset included, writes the configuration, so none writes the ROM. -/
def Obligations.ConfigurationNeverWritten : Prop :=
  ∀ s t : State, step s = .next t → t.cfg = s.cfg

/-! ### Encoding -/

/-- R70, R71, R73: the word of an op decodes to that op, with every operand at every value. -/
def Obligations.DecodeOfEncodeIsTheOp : Prop :=
  ∀ i : Instr, decode (encode i) = .ok i

/-- R73, R75: a word that decodes is the word of its op, so every op has one word. -/
def Obligations.EncodeOfDecodeIsTheWord : Prop :=
  ∀ (w : Word) (i : Instr), decode w = .ok i → encode i = w

/-- R71, R74: a word decodes iff its fields pass the check of R74. -/
def Obligations.DecodeAcceptsExactlyLegalFields : Prop :=
  ∀ w : Word, (∃ i, decode w = .ok i) ↔ (fieldsOf w).wf = true

/-- R70, R73, R74: words of each family as the spec prints them. -/
def Obligations.WorkedEncodingsDecode : Prop :=
  decode 0x00000901#32 = .ok (.report .temp) ∧ decode 0x00007702#32 = .ok (.probe 0x77#7) ∧
  decode 0x0003BE05#32 = .ok (.readReg16 0xBE#8 .md) ∧ decode 0x0000000C#32 = .ok .measure ∧
  decode 0x00000011#32 = .ok .compensate ∧ decode 0x00000412#32 = .ok (.jmp 4#8) ∧
  decode 0x01000013#32 = .error .reservedNotZero ∧ decode 0x00008002#32 = .error .unusedFieldNotZero ∧
  decode 0x00000201#32 = .error .illegalTag ∧ decode 0x00000000#32 = .error .unknownOpcode

/-! ### Steps -/

/-- R220, R223: when the word at `upc` decodes to an op, a step is that op's execution after the step boundary; the boundary
takes one tick and changes nothing but the timer's signal (log 2, 9). -/
def Obligations.StepRunsTheDecodedOp : Prop :=
  ∀ (s : State) (w : Word) (i : Instr),
    s.cfg.wf = true → s.ticks.head? ≠ some .reset → s.runState = .running →
    s.cfg.rom[s.upc.toNat]? = some w → decode w = .ok i →
    step s = exec i (atBoundary s) ∧
    atBoundary s = { s with
      ticks := s.ticks.tail
      timerSignal := if s.ticks.head? = some .elapsed then s.timerSignal || s.timerWait else s.timerSignal }

/-- R220, R223, R255, R258: a `upc` outside the ROM, or an illegal word, raises ILLEGAL_OP before any effect of an op. -/
def Obligations.IllegalFetchHalts : Prop :=
  ∀ s : State, s.cfg.wf = true → s.ticks.head? ≠ some .reset → s.runState = .running →
    (s.cfg.rom.length ≤ s.upc.toNat →
      step s = .next { atBoundary s with
        cause := .illegalOp, faultUpc := s.upc, faultInfo := some ⟨0x00#8, none, none, none, none⟩
        busy := false, runState := .halted }) ∧
    (∀ w e, s.cfg.rom[s.upc.toNat]? = some w → decode w = .error e →
      step s = .next { atBoundary s with
        cause := .illegalOp, faultUpc := s.upc
        faultInfo := some ⟨w.extractLsb' 0 8, none, none, none, some w⟩
        busy := false, runState := .halted })

/-- R22, R224, R239: a halted block takes no step; only the environment's tick passes (log 2, 4, 9: the model's choice). -/
def Obligations.HaltedTakesNoStep : Prop :=
  ∀ s : State, s.cfg.wf = true → s.ticks.head? ≠ some .reset → s.runState = .halted →
    step s = .next { s with
      ticks := s.ticks.tail
      timerSignal := if s.ticks.head? = some .elapsed then s.timerSignal || s.timerWait else s.timerSignal }

/-- R224, R111, R163: a step whose answer has not come is not taken: nothing of the block changes, and the request stands
(log 1, 4, 20: the model's choice of how a step that is not taken looks). -/
def Obligations.UnansweredStepIsNotTaken : Prop :=
  ∀ (s : State) (i : Instr), s.cfg.wf = true → s.ticks.head? ≠ some .reset → s.runState = .running →
    fetch s = .ok i →
    (∀ q, busRequest i (atBoundary s) = some q → answerReady s = false →
      step s = .next { atBoundary s with busReq := some q, busIn := s.busIn.tail }) ∧
    (awaitsTimer i (atBoundary s) = true → (atBoundary s).timerSignal = false → step s = .next (atBoundary s))

/-- Where `withFetchWord` stands for loading a program (the model's choice of log 6: it sets RUNNING, drops resets due, and sets
an out-of-range `upc` to 0): in a configuration whose ROM is not too long and whose MAX_CONSEC_FAIL is not 0, the word placed is
the op the next step fetches and runs. -/
def Obligations.PlacedWordRunsNext : Prop :=
  ∀ (s : State) (i : Instr), s.cfg.rom.length ≤ 256 → s.cfg.maxConsecFail ≠ 0#8 →
    step (s.withFetchWord 32 (encode i).toNat) = exec i (atBoundary (s.withFetchWord 32 (encode i).toNat))

/-- R221, R78, R107, R77: a step without reset appends at most one interaction, first, and then records; a transaction is the
request R78 gives the op at `upc`, and its response has the shape R77 asks for. -/
def Obligations.StepAppendsOneInteractionThenRecords : Prop :=
  ∀ s t : State, step s = .next t → s.ticks.head? ≠ some .reset →
    ∃ es, t.trace = s.trace ++ es ∧ stepEventsShape es = true ∧
      ∀ req resp, .bus req resp ∈ es →
        admissible req resp = true ∧ ∃ i, fetch s = .ok i ∧ busRequest i (atBoundary s) = some req

/-- R51, R58, R78, R108: every transaction a step appends to the trace, and every request it leaves outstanding, is one R58 gives
the op at `upc`. A request that was outstanding before stays only where the step changes none; in a consistent state that one too
is the op's. The same of what the model says an op will ask for. -/
def Obligations.RequestsAreThoseOfTheTable : Prop :=
  (∀ s t : State, step s = .next t →
    (∃ es, t.trace = s.trace ++ es ∧
      ∀ req resp, .bus req resp ∈ es → ∃ i, fetch s = .ok i ∧ transactionOf s.cfg i req) ∧
    (∀ q, t.busReq = some q → s.busReq = some q ∨ ∃ i, fetch s = .ok i ∧ transactionOf s.cfg i q) ∧
    (s.Inv → ∀ q, t.busReq = some q → ∃ i, fetch s = .ok i ∧ transactionOf s.cfg i q)) ∧
  (∀ (i : Instr) (s : State) (q : BusReq), busRequest i s = some q → transactionOf s.cfg i q)

/-- Every op answers a next state from every state: none stops the machine. That a step which is not enabled answers next is the
model's choice (log 4, 20), and so is what an op does in states no run reaches (log 10, 11, 12). -/
def Obligations.EveryOpAnswersNext : Prop :=
  ∀ (i : Instr) (s : State), ∃ t, exec i s = .next t

/-! ### Faults -/

/-- R258: the fault procedure, by class and policy. -/
def Obligations.FaultProcedureByClass : Prop :=
  ∀ (c : Cause) (info : FaultInfo) (s : State),
    (failClass info.op c = .startup ∨ failClass info.op c = .fatal ∨
        (failClass info.op c = .cycle ∧ s.cfg.failPolicy = .halt) →
      raiseFault c info s = { s with
        cause := c, faultUpc := s.upc, faultInfo := some info, busy := false, runState := .halted }) ∧
    (failClass info.op c = .cycle → s.cfg.failPolicy = .cont →
      s.cfg.maxConsecFail.toNat ≤ min (s.consecFail.toNat + 1) 255 →
      raiseFault c info s = { s with
        cause := c, faultUpc := s.upc, faultInfo := some info, busy := false
        trace := s.trace ++ [.report (.cycleError c)]
        consecFail := BitVec.ofNat 8 (min (s.consecFail.toNat + 1) 255), runState := .halted }) ∧
    (failClass info.op c = .cycle → s.cfg.failPolicy = .cont →
      min (s.consecFail.toNat + 1) 255 < s.cfg.maxConsecFail.toNat →
      raiseFault c info s = { s with
        cause := c, faultUpc := s.upc, faultInfo := some info, busy := false
        trace := s.trace ++ [.report (.cycleError c)]
        consecFail := BitVec.ofNat 8 (min (s.consecFail.toNat + 1) 255)
        measState := .idle, rawValid := false, upc := s.cfg.resumeUpc.setWidth 9 })

/-- R251, R256: the cause of each error kind, and the class of each failure. R256 gives FORMULA_DIV0 a class for CMP_X2 and
COMPENSATE; that it has the same one for every opcode is the model's choice (log 18). -/
def Obligations.CausesAndClasses : Prop :=
  ((busCause .addrNack).code = 0x01#8 ∧ (busCause .dataNack).code = 0x02#8 ∧ (busCause .transport).code = 0x03#8) ∧
  (∀ k p s, failClass Instr.readId.opcode (busCause k) = .startup ∧
    failClass (Instr.readReg16 p s).opcode (busCause k) = .startup ∧
    failClass Instr.readCalib.opcode (busCause k) = .startup) ∧
  (∀ k, ∀ i ∈ [Instr.trigger, .readMsb, .readLsb, .measure], failClass i.opcode (busCause k) = .cycle) ∧
  (∀ k a, failClass (Instr.probe a).opcode (busCause k) = .absorbed ∧
    failClass Instr.scan.opcode (busCause k) = .absorbed) ∧
  (∀ op, failClass op .formulaDiv0 = .cycle ∧ failClass op .seqError = .fatal ∧ failClass op .illegalOp = .fatal)

/-- R256, R267: under HALT every fault of an op halts, and no CYCLE_ERROR is emitted. -/
def Obligations.HaltPolicyFaultsHalt : Prop :=
  ∀ (i : Instr) (s t : State), s.cfg.failPolicy = .halt → exec i s = .next t →
    (t.faultInfo ≠ s.faultInfo ∨ t.cause ≠ s.cause → t.runState = .halted) ∧
    ∃ es, t.trace = s.trace ++ es ∧ ∀ c, .report (.cycleError c) ∉ es

/-- R259, R161, R165, R167, R172: under CONTINUE, below the bound, a failed transaction of the cycle reports CYCLE_ERROR and
resumes at RESUME_UPC with the cycle in IDLE; the record, the identity and x1 to t are kept. -/
def Obligations.ContinuePolicyFailsOnlyTheCycle : Prop :=
  ∀ (i : Instr) (s : State) (q : BusReq) (k : ErrKind) (rest : List BusTurn),
    i ∈ [Instr.trigger, .readMsb, .readLsb, .measure] → busRequest i s = some q → s.busIn = .nack k :: rest →
    s.cfg.failPolicy = .cont → s.consecFail.toNat + 1 < s.cfg.maxConsecFail.toNat →
    ∃ p, q.wdata.head? = some p ∧
      exec i s = .next { s with
        busIn := rest, busReq := none
        trace := s.trace ++ [.bus q (.err k), .report (.cycleError (busCause k))]
        cause := busCause k, faultUpc := s.upc
        faultInfo := some ⟨i.opcode, some 0x77#7, some p, some k, none⟩
        busy := false, consecFail := s.consecFail + 1#8
        measState := .idle, rawValid := false, upc := s.cfg.resumeUpc.setWidth 9 }

/-- R254: in a consistent state, an op raises SEQ_ERROR exactly when its precondition fails. -/
def Obligations.SeqErrorExactlyOnFailedPrecondition : Prop :=
  ∀ (i : Instr) (s t : State), s.Inv → fetch s = .ok i → s.cause ≠ .seqError → exec i s = .next t →
    (t.cause = .seqError ↔ precondition i s = false)

/-- R22: RUNNING turns to HALTED by HALT or by a fault taken in that step, never otherwise. -/
def Obligations.OnlyHaltAndFaultsHalt : Prop :=
  ∀ (i : Instr) (s t : State), exec i s = .next t → s.runState = .running → t.runState = .halted →
    i = .halt ∧ t.cause = s.cause ∧ t.faultInfo = s.faultInfo ∨
    ∃ info, t.faultInfo = some info ∧ t.faultUpc = s.upc ∧ t.cause ≠ .none ∧ info.op = i.opcode

/-! ### Sequencer -/

/-- R233: REPORT emits the record its tag names, or raises SEQ_ERROR where the value is not there. -/
def Obligations.ReportEmitsTheHeldValue : Prop :=
  ∀ s : State,
    exec (.report .scanStart) s = .next { s with
      trace := s.trace ++ [.report .scanStart], busy := false, upc := s.upc + 1#9 } ∧
    (∀ cal, s.calibValid = true → s.calRec = some cal →
      ∀ p ∈ [(ReportTag.ac5, Record.ac5 cal.ac5), (.ac6, .ac6 cal.ac6), (.mc, .mc cal.mc), (.md, .md cal.md)],
        exec (.report p.1) s = .next { s with
          trace := s.trace ++ [.report p.2], busy := false, upc := s.upc + 1#9 }) ∧
    (∀ v, s.t = some v →
      exec (.report .temp) s = .next { s with
        trace := s.trace ++ [.report (.temp v)], busy := false, upc := s.upc + 1#9 }) ∧
    (s.calibValid = false → ∀ tag ∈ [ReportTag.ac5, .ac6, .mc, .md],
      exec (.report tag) s = .next (raiseFault .seqError ⟨0x01#8, none, none, none, none⟩ s)) ∧
    (s.t = none → exec (.report .temp) s = .next (raiseFault .seqError ⟨0x01#8, none, none, none, none⟩ s))

/-- R234: JMP sets `upc` to its zero-extended target. -/
def Obligations.JmpSetsUpc : Prop :=
  ∀ (n : Byte) (s : State),
    exec (.jmp n) s = .next { s with busy := false, upc := BitVec.ofNat 9 n.toNat }

/-- R235: HALT stops the block where it stands. -/
def Obligations.HaltStopsTheBlock : Prop :=
  ∀ s : State, exec .halt s = .next { s with busy := false, runState := .halted }

/-! ### Scanner -/

/-- R122: PROBE, found or not found. -/
def Obligations.ProbeReportsExactlyTheFound : Prop :=
  ∀ (a : BusAddr) (s : State) (rest : List BusTurn),
    (∀ b0 b1, s.busIn = .ack b0 b1 :: rest →
      exec (.probe a) s = .next { s with
        busIn := rest, busReq := none
        trace := s.trace ++ [.bus ⟨.write, a, [s.cfg.probeByte], 0⟩ (.ok []), .report (.found a)]
        probeAck := true, busy := false, upc := s.upc + 1#9 }) ∧
    (∀ k, s.busIn = .nack k :: rest →
      exec (.probe a) s = .next { s with
        busIn := rest, busReq := none
        trace := s.trace ++ [.bus ⟨.write, a, [s.cfg.probeByte], 0⟩ (.err k)]
        probeAck := false, busy := false, upc := s.upc + 1#9 })

/-- R124: one step of SCAN at address `a`, which is 0 in the first step and `scan_addr` after it; the step at 127 ends it. -/
def Obligations.ScanStepProbesOneAddress : Prop :=
  ∀ (a : BusAddr) (s : State) (rest : List BusTurn) (ack : Bool) (resp : BusResp),
    s.busy = false ∧ a = 0#7 ∨ s.busy = true ∧ s.scanAddr.toNat = a.toNat →
    (ack = true ∧ resp = .ok [] ∧ ∃ b0 b1, s.busIn = .ack b0 b1 :: rest) ∨
      (ack = false ∧ ∃ k, resp = .err k ∧ s.busIn = .nack k :: rest) →
    exec .scan s = .next { s with
      busIn := rest, busReq := none
      trace := s.trace ++ .bus ⟨.write, a, [s.cfg.probeByte], 0⟩ resp :: (if ack then [.report (.found a)] else [])
      probeAck := ack
      scanAddr := BitVec.ofNat 8 (a.toNat + 1)
      busy := decide (a.toNat ≠ 127)
      upc := if a.toNat = 127 then s.upc + 1#9 else s.upc }

/-- R120, R124, R125, R126: from its first step, 128 answered steps of SCAN are the 128 probes of 0 to 127 in order: the same
events and the same `probe_ack`; `upc` moves by one and `scan_addr` ends at 128. -/
def Obligations.ScanIsThe128Probes : Prop :=
  ∀ (s : State) (turns rest : List BusTurn), s.busy = false → turns.length = 128 → .hold ∉ turns →
    s.busIn = turns ++ rest →
    ∃ u, execSeq ((List.range 128).map fun n => .probe (BitVec.ofNat 7 n)) s = .next u ∧
      execTimes .scan 128 s = .next { u with upc := s.upc + 1#9, scanAddr := 128#8 }

/-! ### Calibration -/

/-- R141: READ_ID. -/
def Obligations.ReadIdRecordsTheIdentity : Prop :=
  ∀ (s : State) (rest : List BusTurn),
    (∀ b b1, s.busIn = .ack b b1 :: rest →
      exec .readId s = .next { s with
        busIn := rest, busReq := none
        trace := s.trace ++ [.bus ⟨.wtr, 0x77#7, [0xD0#8], 1⟩ (.ok [b]),
          .report (if b = 0x55#8 then .idIs b else .idUndetected)]
        devId := some b, idMatch := decide (b = 0x55#8), busy := false, upc := s.upc + 1#9 }) ∧
    (∀ k, s.busIn = .nack k :: rest → s.cfg.idReadFailMode = .fatal →
      exec .readId s = .next (raiseFault (busCause k) ⟨0x04#8, some 0x77#7, some 0xD0#8, some k, none⟩ { s with
        busIn := rest, busReq := none, trace := s.trace ++ [.bus ⟨.wtr, 0x77#7, [0xD0#8], 1⟩ (.err k)] })) ∧
    (∀ k, s.busIn = .nack k :: rest → s.cfg.idReadFailMode = .reportUndetected →
      exec .readId s = .next { s with
        busIn := rest, busReq := none
        trace := s.trace ++ [.bus ⟨.wtr, 0x77#7, [0xD0#8], 1⟩ (.err k), .report .idUndetected]
        idMatch := false, busy := false, upc := s.upc + 1#9 })

/-- R145, R144, R54: READ_REG16 stages the big-endian value of the two bytes. -/
def Obligations.ReadReg16StagesTheRegister : Prop :=
  ∀ (p : Byte) (slot : Slot) (s : State) (rest : List BusTurn),
    (∀ b0 b1, s.busIn = .ack b0 b1 :: rest →
      exec (.readReg16 p slot) s = .next { s with
        busIn := rest, busReq := none
        trace := s.trace ++ [.bus ⟨.wtr, 0x77#7, [p], 2⟩ (.ok [b0, b1])]
        calStage := s.calStage.set slot (b0 ++ b1)
        stageWritten := s.stageWritten ||| 1#4 <<< slot.code.toNat
        busy := false, upc := s.upc + 1#9 }) ∧
    (∀ k, s.busIn = .nack k :: rest →
      exec (.readReg16 p slot) s = .next (raiseFault (busCause k) ⟨0x05#8, some 0x77#7, some p, some k, none⟩ { s with
        busIn := rest, busReq := none, trace := s.trace ++ [.bus ⟨.wtr, 0x77#7, [p], 2⟩ (.err k)] }))

/-- R146: COMMIT_CALIB builds the record of the four slots, or raises SEQ_ERROR. -/
def Obligations.CommitCalibBuildsTheRecord : Prop :=
  ∀ s : State,
    (∀ v0 v1 v2 v3, s.calibValid = false → s.stageWritten = 0b1111#4 →
      s.calStage = ⟨some v0, some v1, some v2, some v3⟩ →
      exec .commitCalib s = .next { s with
        calRec := some ⟨v0, v1, v2, v3⟩, calibValid := true, stageWritten := 0b0000#4
        busy := false, upc := s.upc + 1#9 }) ∧
    (s.calibValid = true ∨ s.stageWritten ≠ 0b1111#4 →
      exec .commitCalib s = .next (raiseFault .seqError ⟨0x06#8, none, none, none, none⟩ s))

/-- R148, R147: READ_CALIB: the guard, the four reads, and the commit with its four records. `i` is the step: 0 in the first
step, `calib_idx` after it. -/
def Obligations.ReadCalibStepByStep : Prop :=
  ∀ (s : State),
    (s.busy = false → s.calibValid = true →
      exec .readCalib s = .next (raiseFault .seqError ⟨0x07#8, none, none, none, none⟩ s)) ∧
    (∀ row ∈ [(0#3, Slot.ac5, 0xB2#8), (1#3, .ac6, 0xB4#8), (2#3, .mc, 0xBC#8), (3#3, .md, 0xBE#8)],
      ∀ (i : BitVec 3) (slot : Slot) (p : Byte) (written : BitVec 4), row = (i, slot, p) →
      (s.busy = false ∧ s.calibValid = false ∧ i = 0#3 ∧ written = 0b0000#4) ∨
        (s.busy = true ∧ s.calibIdx = i ∧ written = s.stageWritten) →
      (∀ b0 b1 rest, s.busIn = .ack b0 b1 :: rest →
        exec .readCalib s = .next { s with
          busIn := rest, busReq := none
          trace := s.trace ++ [.bus ⟨.wtr, 0x77#7, [p], 2⟩ (.ok [b0, b1])]
          calStage := s.calStage.set slot (b0 ++ b1)
          stageWritten := written ||| 1#4 <<< slot.code.toNat
          calibIdx := i + 1#3, busy := true }) ∧
      (∀ k rest, s.busIn = .nack k :: rest →
        exec .readCalib s = .next (raiseFault (busCause k) ⟨0x07#8, some 0x77#7, some p, some k, none⟩ { s with
          busIn := rest, busReq := none
          trace := s.trace ++ [.bus ⟨.wtr, 0x77#7, [p], 2⟩ (.err k)]
          stageWritten := written, calibIdx := i, busy := true }))) ∧
    (∀ v0 v1 v2 v3, s.busy = true → s.calibIdx = 4#3 → s.calStage = ⟨some v0, some v1, some v2, some v3⟩ →
      exec .readCalib s = .next { s with
        calRec := some ⟨v0, v1, v2, v3⟩, calibValid := true, stageWritten := 0b0000#4
        trace := s.trace ++ [.report (.ac5 v0), .report (.ac6 v1), .report (.mc v2), .report (.md v3)]
        busy := false, upc := s.upc + 1#9 })

/-- R149: with every read answered, READ_CALIB's five steps are the nine ops of the sequence, but for `upc` and `calib_idx`. -/
def Obligations.ReadCalibIsTheNineOps : Prop :=
  ∀ (s : State) (b0 b1 c0 c1 d0 d1 e0 e1 : Byte) (rest : List BusTurn), s.busy = false → s.calibValid = false →
    s.busIn = .ack b0 b1 :: .ack c0 c1 :: .ack d0 d1 :: .ack e0 e1 :: rest →
    ∃ u, execSeq [.readReg16 0xB2#8 .ac5, .readReg16 0xB4#8 .ac6, .readReg16 0xBC#8 .mc, .readReg16 0xBE#8 .md,
        .commitCalib, .report .ac5, .report .ac6, .report .mc, .report .md] s = .next u ∧
      execTimes .readCalib 5 s = .next { u with upc := s.upc + 1#9, calibIdx := 4#3 }

/-- R150: the record appears only whole, from the four staged values, by COMMIT_CALIB or READ_CALIB; an op that leaves
`calib_valid` at 0 leaves `cal_rec` as it was and emits no AC5, AC6, MC or MD record. -/
def Obligations.RecordAppearsOnlyWhole : Prop :=
  ∀ (i : Instr) (s t : State), s.calibValid = false → exec i s = .next t →
    (t.calibValid = true →
      (i = .commitCalib ∨ i = .readCalib) ∧ t.calRec = s.calStage.toRec ∧ t.calRec.isSome = true) ∧
    (t.calibValid = false →
      t.calRec = s.calRec ∧
      ∃ es, t.trace = s.trace ++ es ∧
        ∀ v, .report (.ac5 v) ∉ es ∧ .report (.ac6 v) ∉ es ∧ .report (.mc v) ∉ es ∧ .report (.md v) ∉ es)

/-- R151: once there, the record stays until reset. From a consistent state: READ_CALIB asks for `calib_valid = 0` in its first
step only. -/
def Obligations.RecordIsImmutableUntilReset : Prop :=
  ∀ s t : State, s.Inv → step s = .next t → s.ticks.head? ≠ some .reset → s.calibValid = true →
    t.calRec = s.calRec ∧ t.calibValid = true

/-- R142: what the identity registers hold changes nothing else, at any op. -/
def Obligations.IdentityGatesNothing : Prop :=
  ∀ (i : Instr) (s t : State) (devId : Option Byte) (idMatch : Bool), exec i s = .next t →
    ∃ d m, exec i (s.withIdentity devId idMatch) = .next (t.withIdentity d m)

/-- R123: what PROBE_BYTE is changes nothing but the byte a probe writes. -/
def Obligations.ProbeByteChangesNothingElse : Prop :=
  ∀ (i : Instr) (s t : State) (b : Byte), exec i s = .next t →
    ∃ u, exec i (s.withProbeByte b) = .next u ∧
      u = { t.withProbeByte b with trace := u.trace, busReq := u.busReq } ∧
      u.trace.map Event.eraseProbe = t.trace.map Event.eraseProbe ∧
      u.busReq.map BusReq.eraseProbe = t.busReq.map BusReq.eraseProbe

/-! ### Measurement -/

/-- R161: TRIGGER. -/
def Obligations.TriggerStartsTheConversion : Prop :=
  ∀ s : State,
    (s.measState = .idle ∨ s.measState = .complete →
      (∀ b0 b1 rest, s.busIn = .ack b0 b1 :: rest →
        exec .trigger s = .next { s with
          busIn := rest, busReq := none
          trace := s.trace ++ [.bus ⟨.write, 0x77#7, [0xF4#8, 0x2E#8], 0⟩ (.ok [])]
          rawValid := false, measState := .triggered, busy := false, upc := s.upc + 1#9 }) ∧
      (∀ k rest, s.busIn = .nack k :: rest →
        exec .trigger s = .next (raiseFault (busCause k) ⟨0x08#8, some 0x77#7, some 0xF4#8, some k, none⟩ { s with
          busIn := rest, busReq := none
          trace := s.trace ++ [.bus ⟨.write, 0x77#7, [0xF4#8, 0x2E#8], 0⟩ (.err k)]
          rawValid := false }))) ∧
    (s.measState ≠ .idle → s.measState ≠ .complete →
      exec .trigger s = .next (raiseFault .seqError ⟨0x08#8, none, none, none, none⟩ s))

/-- R163: WAIT_CONV, its two steps. That a TimerAwait step without its signal answers the same state is the model's choice
(log 4), and so is that TimerStart drops an earlier signal (log 9). -/
def Obligations.WaitConvWaitsForTheSignal : Prop :=
  ∀ s : State,
    (s.busy = false → s.measState = .triggered →
      exec .waitConv s = .next { s with
        timerWait := true, timerSignal := false, trace := s.trace ++ [.timerStart]
        measState := .converting, busy := true }) ∧
    (s.busy = true → s.measState = .converting → s.timerSignal = true →
      exec .waitConv s = .next { s with
        timerWait := false, timerSignal := false, trace := s.trace ++ [.timerElapsed]
        measState := .readMsb, busy := false, upc := s.upc + 1#9 }) ∧
    (s.busy = true → s.timerSignal = false → exec .waitConv s = .next s) ∧
    (s.busy = false → s.measState ≠ .triggered →
      exec .waitConv s = .next (raiseFault .seqError ⟨0x09#8, none, none, none, none⟩ s))

/-- R165: READ_MSB. -/
def Obligations.ReadMsbTakesTheHighByte : Prop :=
  ∀ s : State,
    (s.measState = .readMsb →
      (∀ b b1 rest, s.busIn = .ack b b1 :: rest →
        exec .readMsb s = .next { s with
          busIn := rest, busReq := none
          trace := s.trace ++ [.bus ⟨.wtr, 0x77#7, [0xF6#8], 1⟩ (.ok [b])]
          raw := some (b ++ 0x00#8), measState := .readLsb, busy := false, upc := s.upc + 1#9 }) ∧
      (∀ k rest, s.busIn = .nack k :: rest →
        exec .readMsb s = .next (raiseFault (busCause k) ⟨0x0A#8, some 0x77#7, some 0xF6#8, some k, none⟩ { s with
          busIn := rest, busReq := none
          trace := s.trace ++ [.bus ⟨.wtr, 0x77#7, [0xF6#8], 1⟩ (.err k)] }))) ∧
    (s.measState ≠ .readMsb →
      exec .readMsb s = .next (raiseFault .seqError ⟨0x0A#8, none, none, none, none⟩ s))

/-- R167: READ_LSB, where the high byte is there (it is in every consistent state). -/
def Obligations.ReadLsbCompletesTheRawValue : Prop :=
  ∀ s : State,
    (∀ hi lo : Byte, s.measState = .readLsb → s.raw = some (hi ++ lo) →
      (∀ b b1 rest, s.busIn = .ack b b1 :: rest →
        exec .readLsb s = .next { s with
          busIn := rest, busReq := none
          trace := s.trace ++ [.bus ⟨.wtr, 0x77#7, [0xF7#8], 1⟩ (.ok [b])]
          raw := some (hi ++ b), rawValid := true, measState := .complete, busy := false, upc := s.upc + 1#9 }) ∧
      (∀ k rest, s.busIn = .nack k :: rest →
        exec .readLsb s = .next (raiseFault (busCause k) ⟨0x0B#8, some 0x77#7, some 0xF7#8, some k, none⟩ { s with
          busIn := rest, busReq := none
          trace := s.trace ++ [.bus ⟨.wtr, 0x77#7, [0xF7#8], 1⟩ (.err k)] }))) ∧
    (s.measState ≠ .readLsb →
      exec .readLsb s = .next (raiseFault .seqError ⟨0x0B#8, none, none, none, none⟩ s))

/-- R172: one execution of MEASURE makes the transition its state names, all five of them; in a state that may not begin a
cycle it raises SEQ_ERROR. That the wait without its signal answers the same state is the model's choice (log 4), and
so is that TimerStart drops an earlier signal (log 9). -/
def Obligations.MeasureMakesEachTransition : Prop :=
  ∀ s : State,
    (s.busy = false → s.measState = .idle ∨ s.measState = .complete → ∀ b0 b1 rest, s.busIn = .ack b0 b1 :: rest →
      exec .measure s = .next { s with
        busIn := rest, busReq := none
        trace := s.trace ++ [.bus ⟨.write, 0x77#7, [0xF4#8, 0x2E#8], 0⟩ (.ok [])]
        rawValid := false, measState := .triggered, busy := true }) ∧
    (s.busy = true → s.measState = .triggered →
      exec .measure s = .next { s with
        timerWait := true, timerSignal := false, trace := s.trace ++ [.timerStart], measState := .converting }) ∧
    (s.busy = true → s.measState = .converting → s.timerSignal = true →
      exec .measure s = .next { s with
        timerWait := false, timerSignal := false, trace := s.trace ++ [.timerElapsed], measState := .readMsb }) ∧
    (s.busy = true → s.measState = .converting → s.timerSignal = false → exec .measure s = .next s) ∧
    (s.busy = true → s.measState = .readMsb → ∀ b b1 rest, s.busIn = .ack b b1 :: rest →
      exec .measure s = .next { s with
        busIn := rest, busReq := none
        trace := s.trace ++ [.bus ⟨.wtr, 0x77#7, [0xF6#8], 1⟩ (.ok [b])]
        raw := some (b ++ 0x00#8), measState := .readLsb }) ∧
    (∀ hi lo : Byte, s.busy = true → s.measState = .readLsb → s.raw = some (hi ++ lo) →
      ∀ b b1 rest, s.busIn = .ack b b1 :: rest →
      exec .measure s = .next { s with
        busIn := rest, busReq := none
        trace := s.trace ++ [.bus ⟨.wtr, 0x77#7, [0xF7#8], 1⟩ (.ok [b])]
        raw := some (hi ++ b), rawValid := true, measState := .complete, busy := false, upc := s.upc + 1#9 }) ∧
    (∀ q k rest, busRequest .measure s = some q → s.busIn = .nack k :: rest →
      ∃ p, q.wdata.head? = some p ∧
      exec .measure s = .next (raiseFault (busCause k) ⟨0x0C#8, some 0x77#7, some p, some k, none⟩ { s with
        busIn := rest, busReq := none, trace := s.trace ++ [.bus q (.err k)]
        rawValid := s.busy && s.rawValid })) ∧
    (s.busy = false → s.measState ≠ .idle → s.measState ≠ .complete →
      exec .measure s = .next (raiseFault .seqError ⟨0x0C#8, none, none, none, none⟩ s))

/-- R173: wherever MEASURE can stand, one execution of it does what the primitive op of that state does, whatever the bus and
the timer answer, up to `upc`, `busy` and the opcode a fault names. -/
def Obligations.MeasureDoesWhatThePrimitivesDo : Prop :=
  ∀ s : State,
    s.busy = false ∧ s.measState.mayTrigger = true ∨ s.busy = true ∧ s.measState.mayTrigger = false →
    ∃ t u, exec .measure s = .next t ∧
      exec (primitiveOf s.measState) { s with busy := decide (s.measState = .converting) } = .next u ∧
      t.upToOp = u.upToOp

/-- R162, R290: after a failed trigger write no read of the cycle passes its interlock: READ_MSB and READ_LSB raise SEQ_ERROR
and touch no port. -/
def Obligations.NoReadsAfterAFailedTrigger : Prop :=
  ∀ (i : Instr) (s t : State) (k : ErrKind) (rest : List BusTurn),
    i = .trigger ∨ i = .measure → busRequest i s = some ⟨.write, 0x77#7, [0xF4#8, 0x2E#8], 0⟩ →
    s.busIn = .nack k :: rest → exec i s = .next t →
    (t.measState = .idle ∨ t.measState = .complete) ∧ t.rawValid = false ∧
    ∀ j ∈ [Instr.readMsb, .readLsb], busRequest j t = none ∧
      ∃ u, exec j t = .next u ∧ u.cause = .seqError ∧ u.trace = t.trace ∧ u.raw = t.raw

/-! ### Compensation -/

/-- R195: CMP_X1. -/
def Obligations.CmpX1ComputesX1 : Prop :=
  ∀ s : State,
    (∀ raw cal, s.rawValid = true → s.raw = some raw → s.calibValid = true → s.calRec = some cal →
      exec .cmpX1 s = .next { s with
        x1 := some (i32 (asr ((s16 raw - s16 cal.ac6) * s16 cal.ac5) 15)), busy := false, upc := s.upc + 1#9 }) ∧
    (s.rawValid = false ∨ s.calibValid = false →
      exec .cmpX1 s = .next (raiseFault .seqError ⟨0x0D#8, none, none, none, none⟩ s))

/-- R196: CMP_X2. -/
def Obligations.CmpX2ComputesX2 : Prop :=
  ∀ s : State,
    (∀ x1 cal, s.x1 = some x1 → s.calibValid = true → s.calRec = some cal →
      (x1.toInt + s16 cal.md ≠ 0 →
        exec .cmpX2 s = .next { s with
          x2 := some (i32 (tdiv (shl (s16 cal.mc) 11) (x1.toInt + s16 cal.md))), busy := false, upc := s.upc + 1#9 }) ∧
      (x1.toInt + s16 cal.md = 0 →
        exec .cmpX2 s = .next (raiseFault .formulaDiv0 ⟨0x0E#8, none, none, none, none⟩ s))) ∧
    (s.x1 = none ∨ s.calibValid = false →
      exec .cmpX2 s = .next (raiseFault .seqError ⟨0x0E#8, none, none, none, none⟩ s))

/-- R197: CMP_B5 completes wherever x1 and x2 hold values, and holds their exact sum wherever an i32 can hold it (R190: in
every run). -/
def Obligations.CmpB5AddsX1AndX2 : Prop :=
  ∀ s : State,
    (∀ x1 x2, s.x1 = some x1 → s.x2 = some x2 →
      ∃ b5 : BitVec 32, exec .cmpB5 s = .next { s with b5 := some b5, busy := false, upc := s.upc + 1#9 } ∧
        (-2147483648 ≤ x1.toInt + x2.toInt → x1.toInt + x2.toInt ≤ 2147483647 → b5.toInt = x1.toInt + x2.toInt)) ∧
    (s.x1 = none ∨ s.x2 = none →
      exec .cmpB5 s = .next (raiseFault .seqError ⟨0x0F#8, none, none, none, none⟩ s))

/-- R198: CMP_T. -/
def Obligations.CmpTComputesTheTemperature : Prop :=
  ∀ s : State,
    (∀ b5, s.b5 = some b5 →
      exec .cmpT s = .next { s with
        t := some (i32 (tdiv (asr (b5.toInt + 8) 4) 10)), consecFail := 0#8, busy := false, upc := s.upc + 1#9 }) ∧
    (s.b5 = none → exec .cmpT s = .next (raiseFault .seqError ⟨0x10#8, none, none, none, none⟩ s))

/-- R199, R193: COMPENSATE holds the exact integers of the formula, or raises FORMULA_DIV0 and writes no result. -/
def Obligations.CompensateEvaluatesTheFormula : Prop :=
  ∀ s : State,
    (∀ raw cal, s.rawValid = true → s.raw = some raw → s.calibValid = true → s.calRec = some cal →
      (asr ((s16 raw - s16 cal.ac6) * s16 cal.ac5) 15 + s16 cal.md ≠ 0 →
        ∃ x1 x2 b5 t : BitVec 32,
          x1.toInt = asr ((s16 raw - s16 cal.ac6) * s16 cal.ac5) 15 ∧
          x2.toInt = tdiv (shl (s16 cal.mc) 11) (x1.toInt + s16 cal.md) ∧
          b5.toInt = x1.toInt + x2.toInt ∧
          t.toInt = tdiv (asr (b5.toInt + 8) 4) 10 ∧
          exec .compensate s = .next { s with
            x1 := some x1, x2 := some x2, b5 := some b5, t := some t, consecFail := 0#8
            busy := false, upc := s.upc + 1#9 }) ∧
      (asr ((s16 raw - s16 cal.ac6) * s16 cal.ac5) 15 + s16 cal.md = 0 →
        exec .compensate s = .next (raiseFault .formulaDiv0 ⟨0x11#8, none, none, none, none⟩ s))) ∧
    (s.rawValid = false ∨ s.calibValid = false →
      exec .compensate s = .next (raiseFault .seqError ⟨0x11#8, none, none, none, none⟩ s))

/-- R200: COMPENSATE is CMP_X1; CMP_X2; CMP_B5; CMP_T but for `upc`; on a divisor of 0 the sequence has written `x1`. -/
def Obligations.CompensateIsTheFourOps : Prop :=
  ∀ (s : State) (raw : Half) (cal : CalRec),
    s.rawValid = true → s.raw = some raw → s.calibValid = true → s.calRec = some cal →
    (∀ x1 x2 b5 t, comp raw cal = .ok x1 x2 b5 t →
      ∃ u, execSeq [.cmpX1, .cmpX2, .cmpB5, .cmpT] s = .next u ∧
        exec .compensate s = .next { u with upc := s.upc + 1#9 } ∧
        u.x1 = some x1 ∧ u.x2 = some x2 ∧ u.b5 = some b5 ∧ u.t = some t) ∧
    (∀ x1, comp raw cal = .div0 x1 →
      ∃ u v, execSeq [.cmpX1, .cmpX2] s = .next u ∧ exec .compensate s = .next v ∧
        u.cause = .formulaDiv0 ∧ v.cause = .formulaDiv0 ∧ u.x1 = some x1 ∧ v.x1 = s.x1 ∧ u.x2 = s.x2 ∧ v.x2 = s.x2)

/-- R190: every value of the table lies in its range, for all i16 inputs; the last four are there only for a divisor other than
0 (R192). -/
def Obligations.FormulaNeverOverflows : Prop :=
  ∀ (raw : Half) (cal : CalRec) (d1 p x1 n d : Int),
    d1 = s16 raw - s16 cal.ac6 → p = d1 * s16 cal.ac5 → x1 = asr p 15 → n = shl (s16 cal.mc) 11 →
    d = x1 + s16 cal.md →
    (-65535 ≤ d1 ∧ d1 ≤ 65535) ∧ (-2147450880 ≤ p ∧ p ≤ 2147450880) ∧ (-65535 ≤ x1 ∧ x1 ≤ 65535) ∧
    (-67108864 ≤ n ∧ n ≤ 67106816) ∧ (-98303 ≤ d ∧ d ≤ 98302) ∧
    (d ≠ 0 → ∀ x2 b5 q t : Int, x2 = tdiv n d → b5 = x1 + x2 → q = asr (b5 + 8) 4 → t = tdiv q 10 →
      (-67108864 ≤ x2 ∧ x2 ≤ 67108864) ∧ (-67174399 ≤ b5 ∧ b5 ≤ 67174399) ∧
      (-4198400 ≤ q ∧ q ≤ 4198400) ∧ (-419840 ≤ t ∧ t ≤ 419840))

/-! ### Frames -/

/-- The frame of REPORT, JMP, HALT, PROBE and SCAN: the state elements their rules name, the fault state and HALTED for REPORT
only, the bus port for the probes; nothing else (R42, R122, R124, R233 to R235). -/
def Obligations.FrameOfSequencerAndScanner : Prop :=
  ∀ (s t : State),
    (∀ tag, exec (.report tag) s = .next t → t = { s with
      upc := t.upc, busy := false, trace := t.trace
      cause := t.cause, faultUpc := t.faultUpc, faultInfo := t.faultInfo, runState := t.runState }) ∧
    (∀ n, exec (.jmp n) s = .next t → t = { s with upc := t.upc, busy := t.busy }) ∧
    (exec .halt s = .next t → t = { s with busy := t.busy, runState := t.runState }) ∧
    (∀ a, exec (.probe a) s = .next t → t = { s with
      probeAck := t.probeAck, upc := t.upc, busy := t.busy, trace := t.trace, busIn := t.busIn, busReq := t.busReq }) ∧
    (exec .scan s = .next t → t = { s with
      scanAddr := t.scanAddr, probeAck := t.probeAck, upc := t.upc, busy := t.busy
      trace := t.trace, busIn := t.busIn, busReq := t.busReq })

/-- The frame of READ_ID, READ_REG16, COMMIT_CALIB and READ_CALIB: the elements their rules name, the fault state, and the bus
port where the op uses it; nothing else, whatever FAIL_POLICY is (R141, R145, R146, R148, R256 STARTUP and FATAL). -/
def Obligations.FrameOfCalibrationOps : Prop :=
  ∀ (s t : State),
    (exec .readId s = .next t → t = { s with
      devId := t.devId, idMatch := t.idMatch, upc := t.upc, busy := t.busy, runState := t.runState
      cause := t.cause, faultUpc := t.faultUpc, faultInfo := t.faultInfo
      trace := t.trace, busIn := t.busIn, busReq := t.busReq }) ∧
    (∀ p slot, exec (.readReg16 p slot) s = .next t → t = { s with
      calStage := t.calStage, stageWritten := t.stageWritten, upc := t.upc, busy := t.busy, runState := t.runState
      cause := t.cause, faultUpc := t.faultUpc, faultInfo := t.faultInfo
      trace := t.trace, busIn := t.busIn, busReq := t.busReq } ∧
      ∀ other, other ≠ slot → t.calStage.get other = s.calStage.get other) ∧
    (exec .commitCalib s = .next t → t = { s with
      calRec := t.calRec, calibValid := t.calibValid, stageWritten := t.stageWritten
      upc := t.upc, busy := false, runState := t.runState
      cause := t.cause, faultUpc := t.faultUpc, faultInfo := t.faultInfo }) ∧
    (exec .readCalib s = .next t → t = { s with
      calibIdx := t.calibIdx, calStage := t.calStage, stageWritten := t.stageWritten
      calRec := t.calRec, calibValid := t.calibValid, upc := t.upc, busy := t.busy, runState := t.runState
      cause := t.cause, faultUpc := t.faultUpc, faultInfo := t.faultInfo
      trace := t.trace, busIn := t.busIn, busReq := t.busReq })

/-- The frame of TRIGGER, READ_MSB, READ_LSB, MEASURE and WAIT_CONV: no identity, calibration, scan or formula register; the
timer port only in WAIT_CONV and MEASURE, the bus port not in WAIT_CONV; `raw` not in TRIGGER and WAIT_CONV (R161 to R172). -/
def Obligations.FrameOfMeasurementOps : Prop :=
  ∀ (s t : State),
    (∀ i ∈ [Instr.trigger, .readMsb, .readLsb, .measure], exec i s = .next t → t = { s with
      raw := t.raw, rawValid := t.rawValid, measState := t.measState, upc := t.upc, busy := t.busy
      runState := t.runState, cause := t.cause, faultUpc := t.faultUpc, faultInfo := t.faultInfo
      consecFail := t.consecFail, timerWait := t.timerWait, timerSignal := t.timerSignal
      trace := t.trace, busIn := t.busIn, busReq := t.busReq }) ∧
    (∀ i ∈ [Instr.trigger, .readMsb, .readLsb], exec i s = .next t →
      t.timerWait = s.timerWait ∧ t.timerSignal = s.timerSignal) ∧
    (exec .trigger s = .next t → t.raw = s.raw) ∧
    (exec .waitConv s = .next t → t = { s with
      measState := t.measState, upc := t.upc, busy := t.busy
      runState := t.runState, cause := t.cause, faultUpc := t.faultUpc, faultInfo := t.faultInfo
      timerWait := t.timerWait, timerSignal := t.timerSignal, trace := t.trace })

/-- The frame of the compensation ops: each writes its own register of x1, x2, b5, t (COMPENSATE all four); only CMP_X2 and
COMPENSATE can fail a cycle; no port but the sink's CYCLE_ERROR record is touched (R195 to R199, R258). -/
def Obligations.FrameOfCompensationOps : Prop :=
  ∀ (s t : State),
    (exec .cmpX1 s = .next t → t = { s with
      x1 := t.x1, upc := t.upc, busy := false, runState := t.runState
      cause := t.cause, faultUpc := t.faultUpc, faultInfo := t.faultInfo }) ∧
    (exec .cmpX2 s = .next t → t = { s with
      x2 := t.x2, upc := t.upc, busy := false, runState := t.runState
      cause := t.cause, faultUpc := t.faultUpc, faultInfo := t.faultInfo
      consecFail := t.consecFail, measState := t.measState, rawValid := t.rawValid, trace := t.trace }) ∧
    (exec .cmpB5 s = .next t → t = { s with
      b5 := t.b5, upc := t.upc, busy := false, runState := t.runState
      cause := t.cause, faultUpc := t.faultUpc, faultInfo := t.faultInfo }) ∧
    (exec .cmpT s = .next t → t = { s with
      t := t.t, consecFail := t.consecFail, upc := t.upc, busy := false, runState := t.runState
      cause := t.cause, faultUpc := t.faultUpc, faultInfo := t.faultInfo }) ∧
    (exec .compensate s = .next t → t = { s with
      x1 := t.x1, x2 := t.x2, b5 := t.b5, t := t.t, upc := t.upc, busy := false, runState := t.runState
      cause := t.cause, faultUpc := t.faultUpc, faultInfo := t.faultInfo
      consecFail := t.consecFail, measState := t.measState, rawValid := t.rawValid, trace := t.trace })

/-! ### Invariants -/

/-- The invariants hold right after reset. -/
def Obligations.InvariantsHoldAtReset : Prop :=
  State.reset.Inv ∧ State.reset.FormulaInRange ∧ State.reset.ProtocolKept ∧ State.reset.ReferenceRun

/-- R20 to R38, R171, R221, R285: every step keeps the state consistent, for every ROM, policy and environment. -/
def Obligations.StepKeepsTheStateConsistent : Prop :=
  ∀ s t : State, s.Inv → step s = .next t → t.Inv

/-- R190, R202: every step keeps x1, x2, b5 and t in the ranges of R190. -/
def Obligations.StepKeepsTheFormulaRanges : Prop :=
  ∀ s t : State, s.FormulaInRange → step s = .next t → t.FormulaInRange

/-- R160, R166, R168, R286, R287: every step keeps the measurement protocol on the trace: for every ROM and environment the
conversion is awaited before the MSB read, and the LSB read follows the MSB read. -/
def Obligations.StepKeepsTheMeasurementProtocol : Prop :=
  ∀ s t : State, s.ProtocolKept → step s = .next t → t.ProtocolKept

/-- R254, R255, R236: running the reference ROM, no step raises SEQ_ERROR or ILLEGAL_OP, whatever the bus and the timer answer
and under either policy. -/
def Obligations.ReferenceRomMeetsEveryPrecondition : Prop :=
  ∀ s t : State, s.ReferenceRun → step s = .next t → t.ReferenceRun
end

