-- ==== Sys2Proof/Laws/State.lean ====
section
/-! SUPPORT. One lemma per field of State and named update, true by `rfl`: no proof unfolds a record update of these. -/

namespace Sys2Proof.Machine

variable (s : State)

/-! ### done -/

@[simp] theorem done_cfg : s.done.cfg = s.cfg := rfl
@[simp] theorem done_upc : s.done.upc = s.upc + 1#9 := rfl
@[simp] theorem done_busy : s.done.busy = false := rfl
@[simp] theorem done_runState : s.done.runState = s.runState := rfl
@[simp] theorem done_scanAddr : s.done.scanAddr = s.scanAddr := rfl
@[simp] theorem done_probeAck : s.done.probeAck = s.probeAck := rfl
@[simp] theorem done_devId : s.done.devId = s.devId := rfl
@[simp] theorem done_idMatch : s.done.idMatch = s.idMatch := rfl
@[simp] theorem done_calStage : s.done.calStage = s.calStage := rfl
@[simp] theorem done_stageWritten : s.done.stageWritten = s.stageWritten := rfl
@[simp] theorem done_calibIdx : s.done.calibIdx = s.calibIdx := rfl
@[simp] theorem done_calRec : s.done.calRec = s.calRec := rfl
@[simp] theorem done_calibValid : s.done.calibValid = s.calibValid := rfl
@[simp] theorem done_measState : s.done.measState = s.measState := rfl
@[simp] theorem done_raw : s.done.raw = s.raw := rfl
@[simp] theorem done_rawValid : s.done.rawValid = s.rawValid := rfl
@[simp] theorem done_x1 : s.done.x1 = s.x1 := rfl
@[simp] theorem done_x2 : s.done.x2 = s.x2 := rfl
@[simp] theorem done_b5 : s.done.b5 = s.b5 := rfl
@[simp] theorem done_t : s.done.t = s.t := rfl
@[simp] theorem done_cause : s.done.cause = s.cause := rfl
@[simp] theorem done_faultUpc : s.done.faultUpc = s.faultUpc := rfl
@[simp] theorem done_faultInfo : s.done.faultInfo = s.faultInfo := rfl
@[simp] theorem done_consecFail : s.done.consecFail = s.consecFail := rfl
@[simp] theorem done_busReq : s.done.busReq = s.busReq := rfl
@[simp] theorem done_timerWait : s.done.timerWait = s.timerWait := rfl
@[simp] theorem done_timerSignal : s.done.timerSignal = s.timerSignal := rfl
@[simp] theorem done_trace : s.done.trace = s.trace := rfl
@[simp] theorem done_busIn : s.done.busIn = s.busIn := rfl
@[simp] theorem done_ticks : s.done.ticks = s.ticks := rfl

/-! ### log -/

@[simp] theorem log_cfg (es : List Event) : (s.log es).cfg = s.cfg := rfl
@[simp] theorem log_upc (es : List Event) : (s.log es).upc = s.upc := rfl
@[simp] theorem log_busy (es : List Event) : (s.log es).busy = s.busy := rfl
@[simp] theorem log_runState (es : List Event) : (s.log es).runState = s.runState := rfl
@[simp] theorem log_scanAddr (es : List Event) : (s.log es).scanAddr = s.scanAddr := rfl
@[simp] theorem log_probeAck (es : List Event) : (s.log es).probeAck = s.probeAck := rfl
@[simp] theorem log_devId (es : List Event) : (s.log es).devId = s.devId := rfl
@[simp] theorem log_idMatch (es : List Event) : (s.log es).idMatch = s.idMatch := rfl
@[simp] theorem log_calStage (es : List Event) : (s.log es).calStage = s.calStage := rfl
@[simp] theorem log_stageWritten (es : List Event) : (s.log es).stageWritten = s.stageWritten := rfl
@[simp] theorem log_calibIdx (es : List Event) : (s.log es).calibIdx = s.calibIdx := rfl
@[simp] theorem log_calRec (es : List Event) : (s.log es).calRec = s.calRec := rfl
@[simp] theorem log_calibValid (es : List Event) : (s.log es).calibValid = s.calibValid := rfl
@[simp] theorem log_measState (es : List Event) : (s.log es).measState = s.measState := rfl
@[simp] theorem log_raw (es : List Event) : (s.log es).raw = s.raw := rfl
@[simp] theorem log_rawValid (es : List Event) : (s.log es).rawValid = s.rawValid := rfl
@[simp] theorem log_x1 (es : List Event) : (s.log es).x1 = s.x1 := rfl
@[simp] theorem log_x2 (es : List Event) : (s.log es).x2 = s.x2 := rfl
@[simp] theorem log_b5 (es : List Event) : (s.log es).b5 = s.b5 := rfl
@[simp] theorem log_t (es : List Event) : (s.log es).t = s.t := rfl
@[simp] theorem log_cause (es : List Event) : (s.log es).cause = s.cause := rfl
@[simp] theorem log_faultUpc (es : List Event) : (s.log es).faultUpc = s.faultUpc := rfl
@[simp] theorem log_faultInfo (es : List Event) : (s.log es).faultInfo = s.faultInfo := rfl
@[simp] theorem log_consecFail (es : List Event) : (s.log es).consecFail = s.consecFail := rfl
@[simp] theorem log_busReq (es : List Event) : (s.log es).busReq = s.busReq := rfl
@[simp] theorem log_timerWait (es : List Event) : (s.log es).timerWait = s.timerWait := rfl
@[simp] theorem log_timerSignal (es : List Event) : (s.log es).timerSignal = s.timerSignal := rfl
@[simp] theorem log_trace (es : List Event) : (s.log es).trace = s.trace ++ es := rfl
@[simp] theorem log_busIn (es : List Event) : (s.log es).busIn = s.busIn := rfl
@[simp] theorem log_ticks (es : List Event) : (s.log es).ticks = s.ticks := rfl

/-! ### emit -/

@[simp] theorem emit_cfg (r : Record) : (s.emit r).cfg = s.cfg := rfl
@[simp] theorem emit_upc (r : Record) : (s.emit r).upc = s.upc := rfl
@[simp] theorem emit_busy (r : Record) : (s.emit r).busy = s.busy := rfl
@[simp] theorem emit_runState (r : Record) : (s.emit r).runState = s.runState := rfl
@[simp] theorem emit_scanAddr (r : Record) : (s.emit r).scanAddr = s.scanAddr := rfl
@[simp] theorem emit_probeAck (r : Record) : (s.emit r).probeAck = s.probeAck := rfl
@[simp] theorem emit_devId (r : Record) : (s.emit r).devId = s.devId := rfl
@[simp] theorem emit_idMatch (r : Record) : (s.emit r).idMatch = s.idMatch := rfl
@[simp] theorem emit_calStage (r : Record) : (s.emit r).calStage = s.calStage := rfl
@[simp] theorem emit_stageWritten (r : Record) : (s.emit r).stageWritten = s.stageWritten := rfl
@[simp] theorem emit_calibIdx (r : Record) : (s.emit r).calibIdx = s.calibIdx := rfl
@[simp] theorem emit_calRec (r : Record) : (s.emit r).calRec = s.calRec := rfl
@[simp] theorem emit_calibValid (r : Record) : (s.emit r).calibValid = s.calibValid := rfl
@[simp] theorem emit_measState (r : Record) : (s.emit r).measState = s.measState := rfl
@[simp] theorem emit_raw (r : Record) : (s.emit r).raw = s.raw := rfl
@[simp] theorem emit_rawValid (r : Record) : (s.emit r).rawValid = s.rawValid := rfl
@[simp] theorem emit_x1 (r : Record) : (s.emit r).x1 = s.x1 := rfl
@[simp] theorem emit_x2 (r : Record) : (s.emit r).x2 = s.x2 := rfl
@[simp] theorem emit_b5 (r : Record) : (s.emit r).b5 = s.b5 := rfl
@[simp] theorem emit_t (r : Record) : (s.emit r).t = s.t := rfl
@[simp] theorem emit_cause (r : Record) : (s.emit r).cause = s.cause := rfl
@[simp] theorem emit_faultUpc (r : Record) : (s.emit r).faultUpc = s.faultUpc := rfl
@[simp] theorem emit_faultInfo (r : Record) : (s.emit r).faultInfo = s.faultInfo := rfl
@[simp] theorem emit_consecFail (r : Record) : (s.emit r).consecFail = s.consecFail := rfl
@[simp] theorem emit_busReq (r : Record) : (s.emit r).busReq = s.busReq := rfl
@[simp] theorem emit_timerWait (r : Record) : (s.emit r).timerWait = s.timerWait := rfl
@[simp] theorem emit_timerSignal (r : Record) : (s.emit r).timerSignal = s.timerSignal := rfl
@[simp] theorem emit_trace (r : Record) : (s.emit r).trace = s.trace ++ [.report r] := rfl
@[simp] theorem emit_busIn (r : Record) : (s.emit r).busIn = s.busIn := rfl
@[simp] theorem emit_ticks (r : Record) : (s.emit r).ticks = s.ticks := rfl

/-! ### saveFault -/

@[simp] theorem saveFault_cfg (c : Cause) (info : FaultInfo) : (s.saveFault c info).cfg = s.cfg := rfl
@[simp] theorem saveFault_upc (c : Cause) (info : FaultInfo) : (s.saveFault c info).upc = s.upc := rfl
@[simp] theorem saveFault_busy (c : Cause) (info : FaultInfo) : (s.saveFault c info).busy = false := rfl
@[simp] theorem saveFault_runState (c : Cause) (info : FaultInfo) : (s.saveFault c info).runState = s.runState := rfl
@[simp] theorem saveFault_scanAddr (c : Cause) (info : FaultInfo) : (s.saveFault c info).scanAddr = s.scanAddr := rfl
@[simp] theorem saveFault_probeAck (c : Cause) (info : FaultInfo) : (s.saveFault c info).probeAck = s.probeAck := rfl
@[simp] theorem saveFault_devId (c : Cause) (info : FaultInfo) : (s.saveFault c info).devId = s.devId := rfl
@[simp] theorem saveFault_idMatch (c : Cause) (info : FaultInfo) : (s.saveFault c info).idMatch = s.idMatch := rfl
@[simp] theorem saveFault_calStage (c : Cause) (info : FaultInfo) : (s.saveFault c info).calStage = s.calStage := rfl
@[simp] theorem saveFault_stageWritten (c : Cause) (info : FaultInfo) : (s.saveFault c info).stageWritten = s.stageWritten := rfl
@[simp] theorem saveFault_calibIdx (c : Cause) (info : FaultInfo) : (s.saveFault c info).calibIdx = s.calibIdx := rfl
@[simp] theorem saveFault_calRec (c : Cause) (info : FaultInfo) : (s.saveFault c info).calRec = s.calRec := rfl
@[simp] theorem saveFault_calibValid (c : Cause) (info : FaultInfo) : (s.saveFault c info).calibValid = s.calibValid := rfl
@[simp] theorem saveFault_measState (c : Cause) (info : FaultInfo) : (s.saveFault c info).measState = s.measState := rfl
@[simp] theorem saveFault_raw (c : Cause) (info : FaultInfo) : (s.saveFault c info).raw = s.raw := rfl
@[simp] theorem saveFault_rawValid (c : Cause) (info : FaultInfo) : (s.saveFault c info).rawValid = s.rawValid := rfl
@[simp] theorem saveFault_x1 (c : Cause) (info : FaultInfo) : (s.saveFault c info).x1 = s.x1 := rfl
@[simp] theorem saveFault_x2 (c : Cause) (info : FaultInfo) : (s.saveFault c info).x2 = s.x2 := rfl
@[simp] theorem saveFault_b5 (c : Cause) (info : FaultInfo) : (s.saveFault c info).b5 = s.b5 := rfl
@[simp] theorem saveFault_t (c : Cause) (info : FaultInfo) : (s.saveFault c info).t = s.t := rfl
@[simp] theorem saveFault_cause (c : Cause) (info : FaultInfo) : (s.saveFault c info).cause = c := rfl
@[simp] theorem saveFault_faultUpc (c : Cause) (info : FaultInfo) : (s.saveFault c info).faultUpc = s.upc := rfl
@[simp] theorem saveFault_faultInfo (c : Cause) (info : FaultInfo) : (s.saveFault c info).faultInfo = some info := rfl
@[simp] theorem saveFault_consecFail (c : Cause) (info : FaultInfo) : (s.saveFault c info).consecFail = s.consecFail := rfl
@[simp] theorem saveFault_busReq (c : Cause) (info : FaultInfo) : (s.saveFault c info).busReq = s.busReq := rfl
@[simp] theorem saveFault_timerWait (c : Cause) (info : FaultInfo) : (s.saveFault c info).timerWait = s.timerWait := rfl
@[simp] theorem saveFault_timerSignal (c : Cause) (info : FaultInfo) : (s.saveFault c info).timerSignal = s.timerSignal := rfl
@[simp] theorem saveFault_trace (c : Cause) (info : FaultInfo) : (s.saveFault c info).trace = s.trace := rfl
@[simp] theorem saveFault_busIn (c : Cause) (info : FaultInfo) : (s.saveFault c info).busIn = s.busIn := rfl
@[simp] theorem saveFault_ticks (c : Cause) (info : FaultInfo) : (s.saveFault c info).ticks = s.ticks := rfl

/-! ### answered -/

@[simp] theorem answered_cfg (req : BusReq) (resp : BusResp) (rest : List BusTurn) : (s.answered req resp rest).cfg = s.cfg := rfl
@[simp] theorem answered_upc (req : BusReq) (resp : BusResp) (rest : List BusTurn) : (s.answered req resp rest).upc = s.upc := rfl
@[simp] theorem answered_busy (req : BusReq) (resp : BusResp) (rest : List BusTurn) : (s.answered req resp rest).busy = s.busy := rfl
@[simp] theorem answered_runState (req : BusReq) (resp : BusResp) (rest : List BusTurn) : (s.answered req resp rest).runState = s.runState := rfl
@[simp] theorem answered_scanAddr (req : BusReq) (resp : BusResp) (rest : List BusTurn) : (s.answered req resp rest).scanAddr = s.scanAddr := rfl
@[simp] theorem answered_probeAck (req : BusReq) (resp : BusResp) (rest : List BusTurn) : (s.answered req resp rest).probeAck = s.probeAck := rfl
@[simp] theorem answered_devId (req : BusReq) (resp : BusResp) (rest : List BusTurn) : (s.answered req resp rest).devId = s.devId := rfl
@[simp] theorem answered_idMatch (req : BusReq) (resp : BusResp) (rest : List BusTurn) : (s.answered req resp rest).idMatch = s.idMatch := rfl
@[simp] theorem answered_calStage (req : BusReq) (resp : BusResp) (rest : List BusTurn) : (s.answered req resp rest).calStage = s.calStage := rfl
@[simp] theorem answered_stageWritten (req : BusReq) (resp : BusResp) (rest : List BusTurn) : (s.answered req resp rest).stageWritten = s.stageWritten := rfl
@[simp] theorem answered_calibIdx (req : BusReq) (resp : BusResp) (rest : List BusTurn) : (s.answered req resp rest).calibIdx = s.calibIdx := rfl
@[simp] theorem answered_calRec (req : BusReq) (resp : BusResp) (rest : List BusTurn) : (s.answered req resp rest).calRec = s.calRec := rfl
@[simp] theorem answered_calibValid (req : BusReq) (resp : BusResp) (rest : List BusTurn) : (s.answered req resp rest).calibValid = s.calibValid := rfl
@[simp] theorem answered_measState (req : BusReq) (resp : BusResp) (rest : List BusTurn) : (s.answered req resp rest).measState = s.measState := rfl
@[simp] theorem answered_raw (req : BusReq) (resp : BusResp) (rest : List BusTurn) : (s.answered req resp rest).raw = s.raw := rfl
@[simp] theorem answered_rawValid (req : BusReq) (resp : BusResp) (rest : List BusTurn) : (s.answered req resp rest).rawValid = s.rawValid := rfl
@[simp] theorem answered_x1 (req : BusReq) (resp : BusResp) (rest : List BusTurn) : (s.answered req resp rest).x1 = s.x1 := rfl
@[simp] theorem answered_x2 (req : BusReq) (resp : BusResp) (rest : List BusTurn) : (s.answered req resp rest).x2 = s.x2 := rfl
@[simp] theorem answered_b5 (req : BusReq) (resp : BusResp) (rest : List BusTurn) : (s.answered req resp rest).b5 = s.b5 := rfl
@[simp] theorem answered_t (req : BusReq) (resp : BusResp) (rest : List BusTurn) : (s.answered req resp rest).t = s.t := rfl
@[simp] theorem answered_cause (req : BusReq) (resp : BusResp) (rest : List BusTurn) : (s.answered req resp rest).cause = s.cause := rfl
@[simp] theorem answered_faultUpc (req : BusReq) (resp : BusResp) (rest : List BusTurn) : (s.answered req resp rest).faultUpc = s.faultUpc := rfl
@[simp] theorem answered_faultInfo (req : BusReq) (resp : BusResp) (rest : List BusTurn) : (s.answered req resp rest).faultInfo = s.faultInfo := rfl
@[simp] theorem answered_consecFail (req : BusReq) (resp : BusResp) (rest : List BusTurn) : (s.answered req resp rest).consecFail = s.consecFail := rfl
@[simp] theorem answered_busReq (req : BusReq) (resp : BusResp) (rest : List BusTurn) : (s.answered req resp rest).busReq = none := rfl
@[simp] theorem answered_timerWait (req : BusReq) (resp : BusResp) (rest : List BusTurn) : (s.answered req resp rest).timerWait = s.timerWait := rfl
@[simp] theorem answered_timerSignal (req : BusReq) (resp : BusResp) (rest : List BusTurn) : (s.answered req resp rest).timerSignal = s.timerSignal := rfl
@[simp] theorem answered_trace (req : BusReq) (resp : BusResp) (rest : List BusTurn) : (s.answered req resp rest).trace = s.trace ++ [.bus req resp] := rfl
@[simp] theorem answered_busIn (req : BusReq) (resp : BusResp) (rest : List BusTurn) : (s.answered req resp rest).busIn = rest := rfl
@[simp] theorem answered_ticks (req : BusReq) (resp : BusResp) (rest : List BusTurn) : (s.answered req resp rest).ticks = s.ticks := rfl

/-! ### awaiting -/

@[simp] theorem awaiting_cfg (req : BusReq) (rest : List BusTurn) : (s.awaiting req rest).cfg = s.cfg := rfl
@[simp] theorem awaiting_upc (req : BusReq) (rest : List BusTurn) : (s.awaiting req rest).upc = s.upc := rfl
@[simp] theorem awaiting_busy (req : BusReq) (rest : List BusTurn) : (s.awaiting req rest).busy = s.busy := rfl
@[simp] theorem awaiting_runState (req : BusReq) (rest : List BusTurn) : (s.awaiting req rest).runState = s.runState := rfl
@[simp] theorem awaiting_scanAddr (req : BusReq) (rest : List BusTurn) : (s.awaiting req rest).scanAddr = s.scanAddr := rfl
@[simp] theorem awaiting_probeAck (req : BusReq) (rest : List BusTurn) : (s.awaiting req rest).probeAck = s.probeAck := rfl
@[simp] theorem awaiting_devId (req : BusReq) (rest : List BusTurn) : (s.awaiting req rest).devId = s.devId := rfl
@[simp] theorem awaiting_idMatch (req : BusReq) (rest : List BusTurn) : (s.awaiting req rest).idMatch = s.idMatch := rfl
@[simp] theorem awaiting_calStage (req : BusReq) (rest : List BusTurn) : (s.awaiting req rest).calStage = s.calStage := rfl
@[simp] theorem awaiting_stageWritten (req : BusReq) (rest : List BusTurn) : (s.awaiting req rest).stageWritten = s.stageWritten := rfl
@[simp] theorem awaiting_calibIdx (req : BusReq) (rest : List BusTurn) : (s.awaiting req rest).calibIdx = s.calibIdx := rfl
@[simp] theorem awaiting_calRec (req : BusReq) (rest : List BusTurn) : (s.awaiting req rest).calRec = s.calRec := rfl
@[simp] theorem awaiting_calibValid (req : BusReq) (rest : List BusTurn) : (s.awaiting req rest).calibValid = s.calibValid := rfl
@[simp] theorem awaiting_measState (req : BusReq) (rest : List BusTurn) : (s.awaiting req rest).measState = s.measState := rfl
@[simp] theorem awaiting_raw (req : BusReq) (rest : List BusTurn) : (s.awaiting req rest).raw = s.raw := rfl
@[simp] theorem awaiting_rawValid (req : BusReq) (rest : List BusTurn) : (s.awaiting req rest).rawValid = s.rawValid := rfl
@[simp] theorem awaiting_x1 (req : BusReq) (rest : List BusTurn) : (s.awaiting req rest).x1 = s.x1 := rfl
@[simp] theorem awaiting_x2 (req : BusReq) (rest : List BusTurn) : (s.awaiting req rest).x2 = s.x2 := rfl
@[simp] theorem awaiting_b5 (req : BusReq) (rest : List BusTurn) : (s.awaiting req rest).b5 = s.b5 := rfl
@[simp] theorem awaiting_t (req : BusReq) (rest : List BusTurn) : (s.awaiting req rest).t = s.t := rfl
@[simp] theorem awaiting_cause (req : BusReq) (rest : List BusTurn) : (s.awaiting req rest).cause = s.cause := rfl
@[simp] theorem awaiting_faultUpc (req : BusReq) (rest : List BusTurn) : (s.awaiting req rest).faultUpc = s.faultUpc := rfl
@[simp] theorem awaiting_faultInfo (req : BusReq) (rest : List BusTurn) : (s.awaiting req rest).faultInfo = s.faultInfo := rfl
@[simp] theorem awaiting_consecFail (req : BusReq) (rest : List BusTurn) : (s.awaiting req rest).consecFail = s.consecFail := rfl
@[simp] theorem awaiting_busReq (req : BusReq) (rest : List BusTurn) : (s.awaiting req rest).busReq = some req := rfl
@[simp] theorem awaiting_timerWait (req : BusReq) (rest : List BusTurn) : (s.awaiting req rest).timerWait = s.timerWait := rfl
@[simp] theorem awaiting_timerSignal (req : BusReq) (rest : List BusTurn) : (s.awaiting req rest).timerSignal = s.timerSignal := rfl
@[simp] theorem awaiting_trace (req : BusReq) (rest : List BusTurn) : (s.awaiting req rest).trace = s.trace := rfl
@[simp] theorem awaiting_busIn (req : BusReq) (rest : List BusTurn) : (s.awaiting req rest).busIn = rest := rfl
@[simp] theorem awaiting_ticks (req : BusReq) (rest : List BusTurn) : (s.awaiting req rest).ticks = s.ticks := rfl

/-! ### startTimer -/

@[simp] theorem startTimer_cfg : s.startTimer.cfg = s.cfg := rfl
@[simp] theorem startTimer_upc : s.startTimer.upc = s.upc := rfl
@[simp] theorem startTimer_busy : s.startTimer.busy = s.busy := rfl
@[simp] theorem startTimer_runState : s.startTimer.runState = s.runState := rfl
@[simp] theorem startTimer_scanAddr : s.startTimer.scanAddr = s.scanAddr := rfl
@[simp] theorem startTimer_probeAck : s.startTimer.probeAck = s.probeAck := rfl
@[simp] theorem startTimer_devId : s.startTimer.devId = s.devId := rfl
@[simp] theorem startTimer_idMatch : s.startTimer.idMatch = s.idMatch := rfl
@[simp] theorem startTimer_calStage : s.startTimer.calStage = s.calStage := rfl
@[simp] theorem startTimer_stageWritten : s.startTimer.stageWritten = s.stageWritten := rfl
@[simp] theorem startTimer_calibIdx : s.startTimer.calibIdx = s.calibIdx := rfl
@[simp] theorem startTimer_calRec : s.startTimer.calRec = s.calRec := rfl
@[simp] theorem startTimer_calibValid : s.startTimer.calibValid = s.calibValid := rfl
@[simp] theorem startTimer_measState : s.startTimer.measState = s.measState := rfl
@[simp] theorem startTimer_raw : s.startTimer.raw = s.raw := rfl
@[simp] theorem startTimer_rawValid : s.startTimer.rawValid = s.rawValid := rfl
@[simp] theorem startTimer_x1 : s.startTimer.x1 = s.x1 := rfl
@[simp] theorem startTimer_x2 : s.startTimer.x2 = s.x2 := rfl
@[simp] theorem startTimer_b5 : s.startTimer.b5 = s.b5 := rfl
@[simp] theorem startTimer_t : s.startTimer.t = s.t := rfl
@[simp] theorem startTimer_cause : s.startTimer.cause = s.cause := rfl
@[simp] theorem startTimer_faultUpc : s.startTimer.faultUpc = s.faultUpc := rfl
@[simp] theorem startTimer_faultInfo : s.startTimer.faultInfo = s.faultInfo := rfl
@[simp] theorem startTimer_consecFail : s.startTimer.consecFail = s.consecFail := rfl
@[simp] theorem startTimer_busReq : s.startTimer.busReq = s.busReq := rfl
@[simp] theorem startTimer_timerWait : s.startTimer.timerWait = true := rfl
@[simp] theorem startTimer_timerSignal : s.startTimer.timerSignal = false := rfl
@[simp] theorem startTimer_trace : s.startTimer.trace = s.trace ++ [.timerStart] := rfl
@[simp] theorem startTimer_busIn : s.startTimer.busIn = s.busIn := rfl
@[simp] theorem startTimer_ticks : s.startTimer.ticks = s.ticks := rfl

/-! ### takeElapsed -/

@[simp] theorem takeElapsed_cfg : s.takeElapsed.cfg = s.cfg := rfl
@[simp] theorem takeElapsed_upc : s.takeElapsed.upc = s.upc := rfl
@[simp] theorem takeElapsed_busy : s.takeElapsed.busy = s.busy := rfl
@[simp] theorem takeElapsed_runState : s.takeElapsed.runState = s.runState := rfl
@[simp] theorem takeElapsed_scanAddr : s.takeElapsed.scanAddr = s.scanAddr := rfl
@[simp] theorem takeElapsed_probeAck : s.takeElapsed.probeAck = s.probeAck := rfl
@[simp] theorem takeElapsed_devId : s.takeElapsed.devId = s.devId := rfl
@[simp] theorem takeElapsed_idMatch : s.takeElapsed.idMatch = s.idMatch := rfl
@[simp] theorem takeElapsed_calStage : s.takeElapsed.calStage = s.calStage := rfl
@[simp] theorem takeElapsed_stageWritten : s.takeElapsed.stageWritten = s.stageWritten := rfl
@[simp] theorem takeElapsed_calibIdx : s.takeElapsed.calibIdx = s.calibIdx := rfl
@[simp] theorem takeElapsed_calRec : s.takeElapsed.calRec = s.calRec := rfl
@[simp] theorem takeElapsed_calibValid : s.takeElapsed.calibValid = s.calibValid := rfl
@[simp] theorem takeElapsed_measState : s.takeElapsed.measState = s.measState := rfl
@[simp] theorem takeElapsed_raw : s.takeElapsed.raw = s.raw := rfl
@[simp] theorem takeElapsed_rawValid : s.takeElapsed.rawValid = s.rawValid := rfl
@[simp] theorem takeElapsed_x1 : s.takeElapsed.x1 = s.x1 := rfl
@[simp] theorem takeElapsed_x2 : s.takeElapsed.x2 = s.x2 := rfl
@[simp] theorem takeElapsed_b5 : s.takeElapsed.b5 = s.b5 := rfl
@[simp] theorem takeElapsed_t : s.takeElapsed.t = s.t := rfl
@[simp] theorem takeElapsed_cause : s.takeElapsed.cause = s.cause := rfl
@[simp] theorem takeElapsed_faultUpc : s.takeElapsed.faultUpc = s.faultUpc := rfl
@[simp] theorem takeElapsed_faultInfo : s.takeElapsed.faultInfo = s.faultInfo := rfl
@[simp] theorem takeElapsed_consecFail : s.takeElapsed.consecFail = s.consecFail := rfl
@[simp] theorem takeElapsed_busReq : s.takeElapsed.busReq = s.busReq := rfl
@[simp] theorem takeElapsed_timerWait : s.takeElapsed.timerWait = false := rfl
@[simp] theorem takeElapsed_timerSignal : s.takeElapsed.timerSignal = false := rfl
@[simp] theorem takeElapsed_trace : s.takeElapsed.trace = s.trace ++ [.timerElapsed] := rfl
@[simp] theorem takeElapsed_busIn : s.takeElapsed.busIn = s.busIn := rfl
@[simp] theorem takeElapsed_ticks : s.takeElapsed.ticks = s.ticks := rfl

end Sys2Proof.Machine
end

