-- ==== Sys2Proof/Laws/Ops.lean ====
section
/-! SUPPORT. One lemma for each shared operation: everything it can do. Provers cite these and do not unfold the operation. -/

namespace Sys2Proof.Machine

variable {s t : State}

/-! ### One transaction (R59, R106, R111) -/

section Transact

variable {req : BusReq} {onOk : Byte → Byte → State → State} {onErr : ErrKind → State → State}

theorem transact_ack {b0 b1 : Byte} {rest : List BusTurn} (h : s.busIn = .ack b0 b1 :: rest) :
    transact req s onOk onErr = .next (onOk b0 b1 (s.answered req (okResp req b0 b1) rest)) := by
  simp [transact, h]

theorem transact_nack {k : ErrKind} {rest : List BusTurn} (h : s.busIn = .nack k :: rest) :
    transact req s onOk onErr = .next (onErr k (s.answered req (.err k) rest)) := by
  simp [transact, h]

theorem transact_hold {rest : List BusTurn} (h : s.busIn = .hold :: rest) :
    transact req s onOk onErr = .next (s.awaiting req rest) := by
  simp [transact, h]

theorem transact_silent (h : s.busIn = []) : transact req s onOk onErr = .next (s.awaiting req []) := by
  simp [transact, h]

/-- A transaction succeeds, fails or is outstanding; nothing else. -/
theorem transact_next (h : transact req s onOk onErr = .next t) :
    (∃ b0 b1 rest, s.busIn = .ack b0 b1 :: rest ∧ t = onOk b0 b1 (s.answered req (okResp req b0 b1) rest)) ∨
    (∃ k rest, s.busIn = .nack k :: rest ∧ t = onErr k (s.answered req (.err k) rest)) ∨
    (∃ rest, (s.busIn = .hold :: rest ∨ s.busIn = [] ∧ rest = []) ∧ t = s.awaiting req rest) := by
  unfold transact at h
  split at h <;> cases h
  · exact .inl ⟨_, _, _, ‹_›, rfl⟩
  · exact .inr (.inl ⟨_, _, ‹_›, rfl⟩)
  · exact .inr (.inr ⟨_, .inl ‹_›, rfl⟩)
  · exact .inr (.inr ⟨_, .inr ⟨‹_›, rfl⟩, rfl⟩)

/-- A transaction never stops the machine. -/
theorem transact_answers : ∃ t, transact req s onOk onErr = .next t := by
  unfold transact
  split <;> exact ⟨_, rfl⟩

end Transact

/-- An `Ok` response has exactly the bytes its request reads (R77, R107). -/
theorem okResp_admissible (req : BusReq) (b0 b1 : Byte) (h : req.rlen ≤ 2) :
    admissible req (okResp req b0 b1) = true := by
  simp [admissible, okResp, h]

/-! ### The timer (R170) -/

/-- A TimerAwait step consumes the signal, or nothing happens. -/
theorem awaitTimer_next {k : State → State} (h : awaitTimer s k = .next t) :
    s.timerSignal = true ∧ t = k s.takeElapsed ∨ s.timerSignal = false ∧ t = s := by
  unfold awaitTimer at h
  split at h <;> cases h
  · exact .inl ⟨‹_›, rfl⟩
  · exact .inr ⟨Bool.eq_false_iff.mpr ‹_›, rfl⟩

/-! ### Faults (R256, R258) -/

@[simp] theorem failClass_seqError (op : Byte) : failClass op .seqError = .fatal := rfl
@[simp] theorem failClass_illegalOp (op : Byte) : failClass op .illegalOp = .fatal := rfl
@[simp] theorem failClass_formulaDiv0 (op : Byte) : failClass op .formulaDiv0 = .cycle := rfl

@[simp] theorem busCause_ne_none (k : ErrKind) : busCause k ≠ .none := by cases k <;> simp [busCause]
@[simp] theorem busCause_ne_seqError (k : ErrKind) : busCause k ≠ .seqError := by cases k <;> simp [busCause]
@[simp] theorem busCause_ne_illegalOp (k : ErrKind) : busCause k ≠ .illegalOp := by cases k <;> simp [busCause]

/-- A fault that halts: STARTUP and FATAL always, CYCLE under HALT. -/
theorem raiseFault_halts {c : Cause} {info : FaultInfo} (hc : failClass info.op c ≠ .absorbed)
    (h : failClass info.op c ≠ .cycle ∨ s.cfg.failPolicy = .halt) :
    raiseFault c info s = { s.saveFault c info with runState := .halted } := by
  unfold raiseFault
  split <;> simp_all

/-- A CYCLE fault under CONTINUE. -/
theorem raiseFault_cycle_cont {c : Cause} {info : FaultInfo} (hc : failClass info.op c = .cycle)
    (h : s.cfg.failPolicy = .cont) : raiseFault c info s = (s.saveFault c info).failCycle c := by
  simp [raiseFault, hc, h]

/-- Every fault is absorbed, halts, or fails its cycle. -/
theorem raiseFault_cases (c : Cause) (info : FaultInfo) (s : State) :
    failClass info.op c = .absorbed ∧ raiseFault c info s = s ∨
    raiseFault c info s = { s.saveFault c info with runState := .halted } ∨
    failClass info.op c = .cycle ∧ s.cfg.failPolicy = .cont ∧
      raiseFault c info s = (s.saveFault c info).failCycle c := by
  unfold raiseFault
  split <;> simp_all

/-- A failed precondition halts whatever the policy (R256 FATAL). -/
theorem seqFault_eq (op : Byte) (s : State) :
    seqFault op s = { s.saveFault .seqError { op := op } with runState := .halted } :=
  raiseFault_halts (by simp) (.inl (by simp))

/-- An illegal fetch or word halts whatever the policy (R256 FATAL). -/
theorem illegalOp_eq (info : FaultInfo) (s : State) :
    raiseFault .illegalOp info s = { s.saveFault .illegalOp info with runState := .halted } :=
  raiseFault_halts (by simp) (.inl (by simp))

/-- A failed cycle halts at the bound or resumes (R258, R259). -/
theorem failCycle_cases (c : Cause) (s : State) :
    s.failCycle c = { s.emit (.cycleError c) with consecFail := satInc s.consecFail, runState := .halted } ∨
    s.failCycle c = { s.emit (.cycleError c) with
      consecFail := satInc s.consecFail
      measState := .idle
      rawValid := false
      upc := s.cfg.resumeUpc.setWidth 9 } := by
  unfold State.failCycle
  split
  · exact .inl rfl
  · exact .inr rfl

/-- What no fault writes (R258). -/
theorem raiseFault_frame (c : Cause) (info : FaultInfo) (s : State) :
    ∃ u : State, raiseFault c info s =
      { s with
        upc := u.upc, busy := u.busy, runState := u.runState, measState := u.measState, rawValid := u.rawValid
        cause := u.cause, faultUpc := u.faultUpc, faultInfo := u.faultInfo, consecFail := u.consecFail
        trace := u.trace } := by
  refine ⟨raiseFault c info s, ?_⟩
  rcases raiseFault_cases c info s with ⟨-, h⟩ | h | ⟨-, -, h⟩
  · rw [h]
  · rw [h]; rfl
  · rw [h]
    rcases failCycle_cases c (s.saveFault c info) with h | h <;> rw [h] <;> rfl

/-! ### The step boundary and reset (R281) -/

@[simp] theorem atBoundary_ticks (s : State) : (atBoundary s).ticks = s.ticks.tail := by
  unfold atBoundary
  split <;> simp_all

/-- A boundary changes the coming ticks and, where a wait is outstanding, the timer's signal; nothing else. -/
theorem atBoundary_eq (s : State) :
    atBoundary s = { s with ticks := s.ticks.tail, timerSignal := (atBoundary s).timerSignal } := by
  unfold atBoundary
  split <;> simp_all

/-- Fetch reads the ROM and `upc` only (R220). -/
theorem fetch_congr {s t : State} (h : t.cfg.rom = s.cfg.rom) (hu : t.upc = s.upc) : fetch t = fetch s := by
  simp [fetch, h, hu]

@[simp] theorem fetch_atBoundary (s : State) : fetch (atBoundary s) = fetch s := by
  rw [atBoundary_eq]; rfl

/-- A step stops, resets, stays halted, faults at fetch, or executes the op at `upc`. -/
theorem step_cases (s : State) :
    configAccepted s.cfg = false ∧ step s = .fault .configOutsideType ∨
    configAccepted s.cfg = true ∧ resetDue s = true ∧ step s = hostReset s ∨
    configAccepted s.cfg = true ∧ resetDue s = false ∧ s.runState = .halted ∧ step s = .next (atBoundary s) ∨
    configAccepted s.cfg = true ∧ resetDue s = false ∧ s.runState = .running ∧
      ((∃ info, fetch s = .error info ∧ step s = .next (raiseFault .illegalOp info (atBoundary s))) ∨
       (∃ i, fetch s = .ok i ∧ step s = exec i (atBoundary s))) := by
  unfold step
  cases hc : configAccepted s.cfg
  · simp
  · cases hr : resetDue s
    · cases hs : s.runState
      · cases hf : fetch s <;> simp [fetchAndExec, hf]
      · simp
    · simp

/-! ### Bytes and slots -/

/-- READ_LSB keeps the high byte and takes the low one (R167). -/
theorem rawWithLsb_append (hi lo b : Byte) : rawWithLsb (hi ++ lo) b = hi ++ b := by
  have h : (BitVec.append hi lo).extractLsb' 8 8 = hi := by
    ext i hi'
    have append_bit := BitVec.getLsbD_append (x := hi) (y := lo) (i := 8 + i)
    rw [BitVec.getElem_extractLsb', BitVec.append_eq, append_bit, if_neg (by omega)]
    simp [BitVec.getLsbD_eq_getElem hi']
  exact congrArg (· ++ b) h

/-- The bit a slot's mark sets, by the slot's number (R27, R145). -/
theorem stageMark_eq (w : BitVec 4) (slot : Slot) : stageMark w slot = w ||| 1#4 <<< slot.code.toNat := by
  cases slot <;> rfl

/-- A slot holds what was last put in it; the others keep theirs (R145). -/
theorem CalStage.get_set (c : CalStage) (slot other : Slot) (v : Half) :
    (c.set slot v).get other = if other = slot then some v else c.get other := by
  cases slot <;> cases other <;> rfl

/-- Marking a slot touches no other slot's bit (R27). -/
theorem stageMark_other {w : BitVec 4} {slot other : Slot} (h : stageMark w slot &&& stageBit other ≠ 0#4) :
    other = slot ∨ w &&& stageBit other ≠ 0#4 := by
  revert w
  cases slot <;> cases other <;> decide

/-! ### Values of the formula -/

/-- The spec's truncated division is Lean's `Int.tdiv` (R192). -/
theorem tdiv_eq (a b : Int) : tdiv a b = Int.tdiv a b := by
  have pos : ∀ m n : Nat, (m : Int).sign * (n : Int).sign * ((m / n : Nat) : Int) = ((m / n : Nat) : Int) := by
    intro m n
    rcases Nat.eq_zero_or_pos m with rfl | hm
    · simp
    · rcases Nat.eq_zero_or_pos n with rfl | hn
      · simp
      · rw [Int.sign_eq_one_of_pos (by omega), Int.sign_eq_one_of_pos (by omega)]; simp
  obtain ⟨m, rfl | rfl⟩ := Int.eq_nat_or_neg a <;> obtain ⟨n, rfl | rfl⟩ := Int.eq_nat_or_neg b <;>
    simpa [tdiv, Int.neg_tdiv, Int.tdiv_neg] using pos m n

/-- A value in the range of an i32 is what its register holds. -/
theorem i32_toInt {v : Int} (h : -2147483648 ≤ v) (h' : v ≤ 2147483647) : (i32 v).toInt = v := by
  simp only [i32, BitVec.toInt_ofInt]
  rw [Int.bmod_eq_of_le] <;> omega

end Sys2Proof.Machine
end

