-- ==== Sys2Proof/Laws/Exec.lean ====
section
/-! SUPPORT. One inversion lemma per op: the forms a next state can have, guards included. Proofs about every op cite these
and do not unfold a meaning. -/

namespace Sys2Proof.Machine

variable {s t : State}

/-- How a transaction of `req` ended: with what answer `a`, and the state `u` the rest of the step starts from. -/
inductive Answered (req : BusReq) (s : State) : (Byte × Byte) ⊕ ErrKind → State → Prop
  | ack {b0 b1 : Byte} {rest : List BusTurn} (h : s.busIn = .ack b0 b1 :: rest) :
      Answered req s (.inl (b0, b1)) (s.answered req (okResp req b0 b1) rest)
  | nack {k : ErrKind} {rest : List BusTurn} (h : s.busIn = .nack k :: rest) :
      Answered req s (.inr k) (s.answered req (.err k) rest)

/-- The request is outstanding. -/
inductive Awaiting (req : BusReq) (s : State) : State → Prop
  | hold {rest : List BusTurn} (h : s.busIn = .hold :: rest) : Awaiting req s (s.awaiting req rest)
  | silent (h : s.busIn = []) : Awaiting req s (s.awaiting req [])

/-- `transact_next` in the terms of `Answered` and `Awaiting`. -/
theorem transact_cases {req : BusReq} {onOk : Byte → Byte → State → State} {onErr : ErrKind → State → State}
    (h : transact req s onOk onErr = .next t) :
    (∃ b0 b1 u, Answered req s (.inl (b0, b1)) u ∧ t = onOk b0 b1 u) ∨
    (∃ k u, Answered req s (.inr k) u ∧ t = onErr k u) ∨ Awaiting req s t := by
  rcases transact_next h with ⟨b0, b1, rest, hb, rfl⟩ | ⟨k, rest, hb, rfl⟩ | ⟨rest, hb | ⟨hb, rfl⟩, rfl⟩
  · exact .inl ⟨_, _, _, .ack hb, rfl⟩
  · exact .inr (.inl ⟨_, _, .nack hb, rfl⟩)
  · exact .inr (.inr (.hold hb))
  · exact .inr (.inr (.silent hb))

theorem execReport_next {tag : ReportTag} (h : execReport tag s = .next t) :
    (∃ r, s.recordFor tag = some r ∧ t = (s.emit r).done) ∨ s.recordFor tag = none ∧ t = seqFault 0x01#8 s := by
  unfold execReport reportHeld at h
  split at h <;> cases h
  · exact .inl ⟨_, ‹_›, rfl⟩
  · exact .inr ⟨‹_›, rfl⟩

theorem execProbe_next {a : BusAddr} (h : execProbe a s = .next t) :
    (∃ b0 b1 u, Answered (probeReq s.cfg a) s (.inl (b0, b1)) u ∧ t = (u.probed a true).done) ∨
    (∃ k u, Answered (probeReq s.cfg a) s (.inr k) u ∧ t = (u.probed a false).done) ∨
    Awaiting (probeReq s.cfg a) s t :=
  transact_cases h

theorem execScan_next (h : execScan s = .next t) :
    (∃ b0 b1 u, Answered (probeReq s.cfg (s.scanTarget.setWidth 7)) s (.inl (b0, b1)) u ∧
      t = u.scanned s.scanTarget true) ∨
    (∃ k u, Answered (probeReq s.cfg (s.scanTarget.setWidth 7)) s (.inr k) u ∧ t = u.scanned s.scanTarget false) ∨
    Awaiting (probeReq s.cfg (s.scanTarget.setWidth 7)) s t :=
  transact_cases h

theorem execReadId_next (h : execReadId s = .next t) :
    (∃ b b1 u, Answered (readReq regId 1) s (.inl (b, b1)) u ∧ t = (u.identified b).done) ∨
    (∃ k u, Answered (readReq regId 1) s (.inr k) u ∧ t = u.idReadFailed k) ∨ Awaiting (readReq regId 1) s t :=
  transact_cases h

/-- R26's iff after READ_ID, and the one case in which R141 breaks it: under REPORT_UNDETECTED, a read that fails after an
earlier match clears `id_match` and keeps `dev_id` (log 14). -/
theorem execReadId_id_match_iff (h : execReadId s = .next t) (hs : s.idMatch = true ↔ s.devId = some expectedId) :
    (t.idMatch = true ↔ t.devId = some expectedId) ∨
    s.cfg.idReadFailMode = .reportUndetected ∧ (∃ k u, Answered (readReq regId 1) s (.inr k) u) ∧
      s.devId = some expectedId ∧ t.devId = s.devId ∧ t.idMatch = false := by
  rcases execReadId_next h with ⟨b, b1, u, -, rfl⟩ | ⟨k, u, ha, rfl⟩ | ⟨-⟩ | ⟨-⟩
  · left; unfold State.identified; split <;> simp_all [idMatches]
  · cases ha with | nack hb => ?_
    cases hm : s.cfg.idReadFailMode with
    | fatal =>
      obtain ⟨v, e⟩ := raiseFault_frame (busCause k) ⟨0x04#8, some sensorAddr, some regId, some k, none⟩
        (s.answered (readReq regId 1) (.err k) _)
      left
      simp only [State.idReadFailed, answered_cfg, hm, busFault]
      rw [e]; exact hs
    | reportUndetected =>
      simp only [State.idReadFailed, answered_cfg, hm]
      by_cases hd : s.devId = some expectedId
      · exact .inr ⟨trivial, ⟨k, _, .nack hb⟩, hd, rfl, rfl⟩
      · exact .inl ⟨fun h => (Bool.false_ne_true h).elim, fun h => (hd h).elim⟩
  · exact .inl hs
  · exact .inl hs

theorem execReadReg16_next {p : Byte} {slot : Slot} (h : execReadReg16 p slot s = .next t) :
    (∃ b0 b1 u, Answered (readReq p 2) s (.inl (b0, b1)) u ∧ t = (u.stage slot b0 b1).done) ∨
    (∃ k u, Answered (readReq p 2) s (.inr k) u ∧ t = busFault 0x05#8 p k u) ∨ Awaiting (readReq p 2) s t :=
  transact_cases h

theorem execCommitCalib_next (h : execCommitCalib s = .next t) :
    (s.calibValid = false ∧ s.stageWritten = 0b1111#4 ∧ ∃ cal, s.calStage.toRec = some cal ∧ t = (s.commit cal).done) ∨
    (s.calibValid = true ∨ s.stageWritten ≠ 0b1111#4 ∨ s.calStage.toRec = none) ∧ t = seqFault 0x06#8 s := by
  unfold execCommitCalib at h
  split at h
  · cases h
    refine .inr ⟨?_, rfl⟩
    rename_i hc
    cases hv : s.calibValid <;> simp_all [stageFull]
  · split at h <;> cases h
    · simp_all [stageFull]
    · exact .inr ⟨.inr (.inr ‹_›), rfl⟩

theorem execReadCalib_next (h : execReadCalib s = .next t) :
    (s.busy = false ∧ s.calibValid = true ∧ t = seqFault 0x07#8 s) ∨
    ((s.busy = true ∨ s.calibValid = false) ∧
      ((∃ slot, slotOfIdx s.calibStep = some slot ∧
          ((∃ b0 b1 u, Answered (readReq (slotPtr slot) 2) s (.inl (b0, b1)) u ∧
              t = u.calibRead slot s.calibStep b0 b1) ∨
            (∃ k u, Answered (readReq (slotPtr slot) 2) s (.inr k) u ∧
              t = busFault 0x07#8 (slotPtr slot) k u.enterCalib) ∨
            Awaiting (readReq (slotPtr slot) 2) s t)) ∨
       (slotOfIdx s.calibStep = none ∧
          ((∃ cal, s.calStage.toRec = some cal ∧ t = ((s.commit cal).log (calibRecords cal)).done) ∨
            (s.calStage.toRec = none ∧ t = seqFault 0x07#8 s))))) := by
  unfold execReadCalib at h
  split at h
  · cases h
    simp_all
  · rename_i hc
    have hg : s.busy = true ∨ s.calibValid = false := by
      cases hb : s.busy <;> cases hv : s.calibValid <;> simp_all
    refine .inr ⟨hg, ?_⟩
    split at h
    · exact .inl ⟨_, ‹_›, transact_cases h⟩
    · refine .inr ⟨‹_›, ?_⟩
      unfold commitAndReport at h
      split at h <;> cases h
      · exact .inl ⟨_, ‹_›, rfl⟩
      · exact .inr ⟨‹_›, rfl⟩

theorem triggerPhase_next {op : Byte} {fin : State → State} (h : triggerPhase op fin s = .next t) :
    (∃ b0 b1 u, Answered triggerReq s (.inl (b0, b1)) u ∧
      t = fin { u with rawValid := false, measState := .triggered }) ∨
    (∃ k u, Answered triggerReq s (.inr k) u ∧ t = busFault op regCtrl k { u with rawValid := false }) ∨
    Awaiting triggerReq s t :=
  transact_cases h

theorem awaitPhase_next {fin : State → State} (h : awaitPhase fin s = .next t) :
    s.timerSignal = true ∧ t = fin { s.takeElapsed with measState := .readMsb } ∨ s.timerSignal = false ∧ t = s :=
  awaitTimer_next h

theorem msbPhase_next {op : Byte} {fin : State → State} (h : msbPhase op fin s = .next t) :
    (∃ b b1 u, Answered (readReq regMsb 1) s (.inl (b, b1)) u ∧
      t = fin { u with raw := some (rawFromMsb b), measState := .readLsb }) ∨
    (∃ k u, Answered (readReq regMsb 1) s (.inr k) u ∧ t = busFault op regMsb k u) ∨
    Awaiting (readReq regMsb 1) s t :=
  transact_cases h

theorem lsbPhase_next {op : Byte} {fin : State → State} (h : lsbPhase op fin s = .next t) :
    (s.raw = none ∧ t = seqFault op s) ∨
    ∃ raw, s.raw = some raw ∧
      ((∃ b b1 u, Answered (readReq regLsb 1) s (.inl (b, b1)) u ∧
          t = fin { u with raw := some (rawWithLsb raw b), rawValid := true, measState := .complete }) ∨
        (∃ k u, Answered (readReq regLsb 1) s (.inr k) u ∧ t = busFault op regLsb k u) ∨
        Awaiting (readReq regLsb 1) s t) := by
  unfold lsbPhase at h
  split at h
  · cases h
    exact .inl ⟨‹_›, rfl⟩
  · exact .inr ⟨_, ‹_›, transact_cases h⟩

theorem execTrigger_next (h : execTrigger s = .next t) :
    s.measState.mayTrigger = true ∧ triggerPhase 0x08#8 State.done s = .next t ∨
    s.measState.mayTrigger = false ∧ t = seqFault 0x08#8 s := by
  unfold execTrigger at h
  split at h
  · exact .inl ⟨‹_›, h⟩
  · cases h
    exact .inr ⟨Bool.eq_false_iff.mpr ‹_›, rfl⟩

theorem execWaitConv_next (h : execWaitConv s = .next t) :
    s.busy = true ∧ awaitPhase State.done s = .next t ∨
    s.busy = false ∧ s.measState = .triggered ∧ t = { startPhase s with busy := true } ∨
    s.busy = false ∧ s.measState ≠ .triggered ∧ t = seqFault 0x09#8 s := by
  unfold execWaitConv at h
  split at h
  · exact .inl ⟨‹_›, h⟩
  · have hb : s.busy = false := Bool.eq_false_iff.mpr ‹_›
    split at h <;> cases h
    · exact .inr (.inl ⟨hb, ‹_›, rfl⟩)
    · exact .inr (.inr ⟨hb, ‹_›, rfl⟩)

theorem execReadMsb_next (h : execReadMsb s = .next t) :
    s.measState = .readMsb ∧ msbPhase 0x0A#8 State.done s = .next t ∨
    s.measState ≠ .readMsb ∧ t = seqFault 0x0A#8 s := by
  unfold execReadMsb at h
  split at h
  · exact .inl ⟨‹_›, h⟩
  · cases h
    exact .inr ⟨‹_›, rfl⟩

theorem execReadLsb_next (h : execReadLsb s = .next t) :
    s.measState = .readLsb ∧ lsbPhase 0x0B#8 State.done s = .next t ∨
    s.measState ≠ .readLsb ∧ t = seqFault 0x0B#8 s := by
  unfold execReadLsb at h
  split at h
  · exact .inl ⟨‹_›, h⟩
  · cases h
    exact .inr ⟨‹_›, rfl⟩

theorem execMeasure_next (h : execMeasure s = .next t) :
    (s.busy = false ∧ s.measState.mayTrigger = true ∧ triggerPhase 0x0C#8 State.beginMeasure s = .next t) ∨
    (s.busy = false ∧ s.measState.mayTrigger = false ∧ t = seqFault 0x0C#8 s) ∨
    (s.busy = true ∧
      (s.measState = .triggered ∧ t = startPhase s ∨
       s.measState = .converting ∧ awaitPhase id s = .next t ∨
       s.measState = .readMsb ∧ msbPhase 0x0C#8 id s = .next t ∨
       s.measState = .readLsb ∧ lsbPhase 0x0C#8 State.done s = .next t ∨
       s.measState.mayTrigger = true ∧ t = s)) := by
  unfold execMeasure at h
  split at h
  · refine .inr (.inr ⟨‹_›, ?_⟩)
    unfold measureOn at h
    split at h <;> rename_i hm <;> simp only [hm, MeasState.mayTrigger, reduceCtorEq, false_and, true_and, false_or, or_false, Bool.false_eq_true]
    · cases h; rfl
    · exact h
    · exact h
    · exact h
    · cases h; rfl
    · cases h; rfl
  · have hb : s.busy = false := Bool.eq_false_iff.mpr ‹_›
    split at h
    · exact .inl ⟨hb, ‹_›, h⟩
    · cases h
      exact .inr (.inl ⟨hb, Bool.eq_false_iff.mpr ‹_›, rfl⟩)

theorem execCmpX1_next (h : execCmpX1 s = .next t) :
    (∃ raw cal, s.validRaw = some raw ∧ s.validCal = some cal ∧ t = { s with x1 := some (formulaX1 raw cal) }.done) ∨
    (s.validRaw = none ∨ s.validCal = none) ∧ t = seqFault 0x0D#8 s := by
  unfold execCmpX1 at h
  cases hr : s.validRaw <;> cases hc : s.validCal <;> simp only [hr, hc] at h <;> cases h <;> simp

theorem execCmpX2_next (h : execCmpX2 s = .next t) :
    (∃ x1 cal, s.x1 = some x1 ∧ s.validCal = some cal ∧
      (formulaDivisor x1 cal = 0 ∧ t = divFault 0x0E#8 s ∨
       formulaDivisor x1 cal ≠ 0 ∧ t = { s with x2 := some (formulaX2 x1 cal) }.done)) ∨
    (s.x1 = none ∨ s.validCal = none) ∧ t = seqFault 0x0E#8 s := by
  unfold execCmpX2 at h
  cases hx : s.x1 <;> cases hc : s.validCal <;> simp only [hx, hc] at h
  · cases h; simp
  · cases h; simp
  · cases h; simp
  · refine .inl ⟨_, _, rfl, rfl, ?_⟩
    split at h <;> cases h
    · exact .inl ⟨‹_›, rfl⟩
    · exact .inr ⟨‹_›, rfl⟩

theorem execCmpB5_next (h : execCmpB5 s = .next t) :
    (∃ x1 x2, s.x1 = some x1 ∧ s.x2 = some x2 ∧ t = { s with b5 := some (formulaB5 x1 x2) }.done) ∨
    (s.x1 = none ∨ s.x2 = none) ∧ t = seqFault 0x0F#8 s := by
  unfold execCmpB5 at h
  cases h1 : s.x1 <;> cases h2 : s.x2 <;> simp only [h1, h2] at h <;> cases h <;> simp

theorem execCmpT_next (h : execCmpT s = .next t) :
    (∃ b5, s.b5 = some b5 ∧ t = { s with t := some (formulaT b5), consecFail := 0#8 }.done) ∨
    s.b5 = none ∧ t = seqFault 0x10#8 s := by
  unfold execCmpT at h
  split at h <;> cases h
  · exact .inl ⟨_, ‹_›, rfl⟩
  · exact .inr ⟨‹_›, rfl⟩

theorem execCompensate_next (h : execCompensate s = .next t) :
    (∃ raw cal, s.validRaw = some raw ∧ s.validCal = some cal ∧
      ((∃ x1 x2 b5 v, comp raw cal = .ok x1 x2 b5 v ∧ t = (s.compensated x1 x2 b5 v).done) ∨
       (∃ x1, comp raw cal = .div0 x1 ∧ t = divFault 0x11#8 s))) ∨
    (s.validRaw = none ∨ s.validCal = none) ∧ t = seqFault 0x11#8 s := by
  unfold execCompensate at h
  cases hr : s.validRaw <;> cases hc : s.validCal <;> simp only [hr, hc] at h
  · cases h; simp
  · cases h; simp
  · cases h; simp
  · refine .inl ⟨_, _, rfl, rfl, ?_⟩
    split at h <;> cases h
    · exact .inl ⟨_, _, _, _, ‹_›, rfl⟩
    · exact .inr ⟨_, ‹_›, rfl⟩

/-- What `Comp` returns, in its lines (R193). -/
theorem comp_ok {raw : Half} {cal : CalRec} {x1 x2 b5 v : BitVec 32} (h : comp raw cal = .ok x1 x2 b5 v) :
    formulaDivisor x1 cal ≠ 0 ∧ x1 = formulaX1 raw cal ∧ x2 = formulaX2 x1 cal ∧ b5 = formulaB5 x1 x2 ∧
      v = formulaT b5 := by
  simp only [comp] at h
  split at h <;> cases h
  exact ⟨‹_›, rfl, rfl, rfl, rfl⟩

theorem comp_div0 {raw : Half} {cal : CalRec} {x1 : BitVec 32} (h : comp raw cal = .div0 x1) :
    x1 = formulaX1 raw cal ∧ formulaDivisor x1 cal = 0 := by
  simp only [comp] at h
  split at h <;> cases h
  exact ⟨rfl, ‹_›⟩

end Sys2Proof.Machine
end

