-- ==== Sys2Proof/Laws/PerInstr.lean ====
section
/-! SUPPORT. The family WordShape of LAWS.json, one lemma per constructor: the word of an op carries its opcode in bits 7:0, its
two operand bytes in bits 23:8, and 0 in the reserved bits 31:24 (30_encoding.md R70, R71). -/

namespace Sys2Proof.Laws.WordShape

/-- The word of `i` has the shape of R70. -/
def Statement (i : Instr) : Prop :=
  (encode i).extractLsb' 0 8 = i.opcode ∧ (encode i).extractLsb' 8 8 = i.fieldA ∧
  (encode i).extractLsb' 16 8 = i.fieldB ∧ (encode i).extractLsb' 24 8 = 0#8

/-- Bit `i` of four bytes put together (R70). -/
theorem four_bytes_bit (r b a o : Byte) (i : Nat) :
    BitVec.getLsbD (BitVec.append (BitVec.append (BitVec.append r b) a) o) i =
      if i < 8 then o.getLsbD i
      else if i < 16 then a.getLsbD (i - 8)
      else if i < 24 then b.getLsbD (i - 16)
      else r.getLsbD (i - 24) := by
  have low := BitVec.getLsbD_append (x := BitVec.append (BitVec.append r b) a) (y := o) (i := i)
  have next := BitVec.getLsbD_append (x := BitVec.append r b) (y := a) (i := i - 8)
  have high := BitVec.getLsbD_append (x := r) (y := b) (i := i - 8 - 8)
  rw [← BitVec.append_eq] at low next high
  rw [low, next, high, Nat.sub_sub, Nat.sub_sub]
  split_ifs <;> first | rfl | omega

/-- The fields of a word put together are the fields it was put together from (R70). -/
theorem fieldsOf_word (f : OpFields) : fieldsOf f.word = f := by
  have bits := four_bytes_bit f.rsv f.b f.a f.opc
  have h0 : f.word.extractLsb' 0 8 = f.opc := by
    ext i hi
    rw [BitVec.getElem_extractLsb', ← BitVec.getLsbD_eq_getElem, Nat.zero_add]
    exact (bits i).trans (by simp [hi])
  have h1 : f.word.extractLsb' 8 8 = f.a := by
    ext i hi
    rw [BitVec.getElem_extractLsb', ← BitVec.getLsbD_eq_getElem]
    exact (bits (8 + i)).trans (by rw [if_neg (by omega), if_pos (by omega), Nat.add_sub_cancel_left])
  have h2 : f.word.extractLsb' 16 8 = f.b := by
    ext i hi
    rw [BitVec.getElem_extractLsb', ← BitVec.getLsbD_eq_getElem]
    exact (bits (16 + i)).trans
      (by rw [if_neg (by omega), if_neg (by omega), if_pos (by omega), Nat.add_sub_cancel_left])
  have h3 : f.word.extractLsb' 24 8 = f.rsv := by
    ext i hi
    rw [BitVec.getElem_extractLsb', ← BitVec.getLsbD_eq_getElem]
    exact (bits (24 + i)).trans
      (by rw [if_neg (by omega), if_neg (by omega), if_neg (by omega), Nat.add_sub_cancel_left])
  simp [fieldsOf, h0, h1, h2, h3]

theorem of_fields (i : Instr) : Statement i := by
  have h := fieldsOf_word i.fields
  simp only [fieldsOf, Instr.fields, OpFields.mk.injEq] at h
  exact ⟨h.1, h.2.1, h.2.2.1, h.2.2.2⟩

theorem report (tag : ReportTag) : Statement (.report tag) := of_fields _
theorem probe (a : BusAddr) : Statement (.probe a) := of_fields _
theorem scan : Statement .scan := of_fields _
theorem readId : Statement .readId := of_fields _
theorem readReg16 (p : Byte) (slot : Slot) : Statement (.readReg16 p slot) := of_fields _
theorem commitCalib : Statement .commitCalib := of_fields _
theorem readCalib : Statement .readCalib := of_fields _
theorem trigger : Statement .trigger := of_fields _
theorem waitConv : Statement .waitConv := of_fields _
theorem readMsb : Statement .readMsb := of_fields _
theorem readLsb : Statement .readLsb := of_fields _
theorem measure : Statement .measure := of_fields _
theorem cmpX1 : Statement .cmpX1 := of_fields _
theorem cmpX2 : Statement .cmpX2 := of_fields _
theorem cmpB5 : Statement .cmpB5 := of_fields _
theorem cmpT : Statement .cmpT := of_fields _
theorem compensate : Statement .compensate := of_fields _
theorem jmp (n : Byte) : Statement (.jmp n) := of_fields _
theorem halt : Statement .halt := of_fields _

end Sys2Proof.Laws.WordShape
end

