-- ==== Sys2Proof/Tests/Slice0.lean ====
section
/-! SUPPORT. Tests. Expected values are taken from spec/95_test_vectors.md (the vector's name stands in each docstring) or from
the encoding tables of spec/30_encoding.md; one step each. Then the witnesses: for each statement with hypotheses, and for each
of its clauses, a state and operands that meet them. -/

namespace Sys2Proof.Tests

open Sys2Proof.Machine

/-! ### Decoding (V-dec, 95_test_vectors.md 2.1; 30_encoding.md R70, R71, R73) -/

theorem test_decode_report_scan_start : decode 0x00000101#32 = .ok (.report .scanStart) := by decide
theorem test_decode_report_ac5 : decode 0x00000501#32 = .ok (.report .ac5) := by decide
theorem test_decode_report_ac6 : decode 0x00000601#32 = .ok (.report .ac6) := by decide
theorem test_decode_report_mc : decode 0x00000701#32 = .ok (.report .mc) := by decide
theorem test_decode_report_md : decode 0x00000801#32 = .ok (.report .md) := by decide
theorem test_decode_report_temp : decode 0x00000901#32 = .ok (.report .temp) := by decide
theorem test_decode_probe : decode 0x00007702#32 = .ok (.probe 0x77#7) := by decide
theorem test_decode_probe_highest : decode 0x00007F02#32 = .ok (.probe 0x7F#7) := by decide
theorem test_decode_scan : decode 0x00000003#32 = .ok .scan := by decide
theorem test_decode_read_id : decode 0x00000004#32 = .ok .readId := by decide
theorem test_decode_read_reg16 : decode 0x0000B205#32 = .ok (.readReg16 0xB2#8 .ac5) := by decide
theorem test_decode_read_reg16_slot1 : decode 0x0001B405#32 = .ok (.readReg16 0xB4#8 .ac6) := by decide
theorem test_decode_read_reg16_slot2 : decode 0x0002BC05#32 = .ok (.readReg16 0xBC#8 .mc) := by decide
theorem test_decode_read_reg16_slot3 : decode 0x0003FF05#32 = .ok (.readReg16 0xFF#8 .md) := by decide
theorem test_decode_commit_calib : decode 0x00000006#32 = .ok .commitCalib := by decide
theorem test_decode_read_calib : decode 0x00000007#32 = .ok .readCalib := by decide
theorem test_decode_trigger : decode 0x00000008#32 = .ok .trigger := by decide
theorem test_decode_wait_conv : decode 0x00000009#32 = .ok .waitConv := by decide
theorem test_decode_read_msb : decode 0x0000000A#32 = .ok .readMsb := by decide
theorem test_decode_read_lsb : decode 0x0000000B#32 = .ok .readLsb := by decide
theorem test_decode_measure : decode 0x0000000C#32 = .ok .measure := by decide
theorem test_decode_cmp_x1 : decode 0x0000000D#32 = .ok .cmpX1 := by decide
theorem test_decode_cmp_x2 : decode 0x0000000E#32 = .ok .cmpX2 := by decide
theorem test_decode_cmp_b5 : decode 0x0000000F#32 = .ok .cmpB5 := by decide
theorem test_decode_cmp_t : decode 0x00000010#32 = .ok .cmpT := by decide
theorem test_decode_compensate : decode 0x00000011#32 = .ok .compensate := by decide
theorem test_decode_jmp : decode 0x00000412#32 = .ok (.jmp 4#8) := by decide
theorem test_decode_jmp_highest : decode 0x0000FF12#32 = .ok (.jmp 255#8) := by decide
theorem test_decode_halt : decode 0x00000013#32 = .ok .halt := by decide

/-- The word of a table row as the host numbers it: bit 0 is the least significant bit of the op word. -/
theorem test_decode_table_word : decodeTableWord 32 0x00007702 = some (.probe 0x77#7) := by decide

/-- The two words P3 and R75 print for READ_REG16 and REPORT, from the encoder. -/
theorem test_encode_worked :
    encode (.readReg16 0xBE#8 .md) = 0x0003BE05#32 ∧ encode (.report .temp) = 0x00000901#32 := by decide

/-- The reference micro-program, assembled, is the ROM R236 prints. -/
theorem test_assemble_reference :
    assemble [.report .scanStart, .scan, .readId, .readCalib, .measure, .compensate, .report .temp, .jmp 4#8] =
      referenceRom := by decide

/-! ### Ill-formed terms, one for each check (R74, R6, U15, R234) -/

theorem test_illegal_opcode_zero : decode 0x00000000#32 = .error .unknownOpcode := by decide
theorem test_illegal_opcode_14 : decode 0x00000014#32 = .error .unknownOpcode := by decide
theorem test_illegal_opcode_ff : decode 0x000000FF#32 = .error .unknownOpcode := by decide
theorem test_illegal_reserved_low : decode 0x01000011#32 = .error .reservedNotZero := by decide
theorem test_illegal_reserved_high : decode 0x80000013#32 = .error .reservedNotZero := by decide
theorem test_illegal_probe_bit7 : decode 0x00008002#32 = .error .unusedFieldNotZero := by decide
theorem test_illegal_scan_operand : decode 0x00000103#32 = .error .unusedFieldNotZero := by decide
theorem test_illegal_slot_bit2 : decode 0x0004B205#32 = .error .unusedFieldNotZero := by decide
theorem test_illegal_jmp_b : decode 0x00010012#32 = .error .unusedFieldNotZero := by decide
theorem test_illegal_tag_02 : decode 0x00000201#32 = .error .illegalTag := by decide
theorem test_illegal_tag_04 : decode 0x00000401#32 = .error .illegalTag := by decide
theorem test_illegal_tag_0a : decode 0x00000A01#32 = .error .illegalTag := by decide
theorem test_illegal_table_word : decodeTableWord 32 0x01000013 = none := by decide

theorem test_wf_refuses_opcode : (OpFields.mk 0x14#8 0#8 0#8 0#8).wf = false := by decide
theorem test_wf_refuses_reserved : (OpFields.mk 0x13#8 0#8 0#8 1#8).wf = false := by decide
theorem test_wf_refuses_unused_a : (OpFields.mk 0x03#8 1#8 0#8 0#8).wf = false := by decide
theorem test_wf_refuses_unused_b : (OpFields.mk 0x05#8 0xB2#8 4#8 0#8).wf = false := by decide
theorem test_wf_refuses_tag : (OpFields.mk 0x01#8 2#8 0#8 0#8).wf = false := by decide

theorem test_wf_accepts_reference : Config.reference.wf = true := by decide
theorem test_wf_refuses_empty_rom : { Config.reference with rom := [] }.wf = false := by decide
/-- A configuration with a ROM one word too long. -/
def longRom : Config :=
  { Config.reference with rom := List.replicate 257 0x13#32 }

theorem longRom_length : longRom.rom.length = 257 := List.length_replicate

theorem test_wf_refuses_long_rom : longRom.wf = false := by
  simp [Config.wf, Config.inType, Config.romSizeLegal, longRom_length]

theorem test_wf_refuses_no_bound : { Config.reference with maxConsecFail := 0#8 }.wf = false := by decide
theorem test_wf_refuses_resume : { Config.reference with resumeUpc := 8#8 }.wf = false := by decide
theorem test_wf_refuses_jump_out : programWf [.jmp 9#8] = false := by decide
theorem test_wf_refuses_running_off : programWf [.scan] = false := by decide

/-! ### The states the tests and witnesses start from -/

/-- The next state, where there is one. -/
def after (r : Result) : Option State :=
  match r with
  | .next t => some t
  | .fault _ | .refused _ => none

/-- The reset state, the bus about to take these turns. -/
def onBus (turns : List BusTurn) : State :=
  { State.reset with busIn := turns }

/-- The reset state in a state of the cycle, the bus about to take these turns. -/
def inCycle (m : MeasState) (turns : List BusTurn) : State :=
  { onBus turns with measState := m }

/-- The example calibration of V-SRC-5: 408, -14383, -72, 2220. -/
def exampleCal : CalRec := ⟨408#16, BitVec.ofInt 16 (-14383), BitVec.ofInt 16 (-72), 2220#16⟩

/-- The reference run after a first MEASURE, with the trace of V-SRC-6 and the example calibration. -/
def measured : State :=
  { State.reset with
    upc := 5#9
    calRec := some exampleCal, calibValid := true
    measState := .complete, raw := some 27898#16, rawValid := true
    trace :=
      [.bus triggerReq (.ok []), .timerStart, .timerElapsed, .bus (readReq 0xF6#8 1) (.ok [0x6C#8]),
        .bus (readReq 0xF7#8 1) (.ok [0xFA#8])] }

/-- A measured state with another raw value and record. -/
def measuredWith (raw : Half) (cal : CalRec) : State :=
  { measured with raw := some raw, calRec := some cal }

/-- The record of V-CMP-15: raw = ac6 and md = 0. -/
def divisorZeroCal : CalRec := ⟨408#16, 27898#16, BitVec.ofInt 16 (-72), 0#16⟩

/-- A configuration that continues after a failed cycle. -/
def continuing (maxConsecFail : BitVec 8) : Config :=
  { Config.reference with failPolicy := .cont, maxConsecFail := maxConsecFail }

/-! ### Ops -/

/-- V-SEQ-1. -/
theorem test_report_scan_start :
    (after (exec (.report .scanStart) State.reset)).map (fun t => (t.trace, t.upc)) =
      some ([.report .scanStart], 1#9) := by decide

/-- V-SEQ-2. -/
theorem test_report_ac5_without_record :
    (after (exec (.report .ac5) State.reset)).map (fun t => (t.trace, t.runState, t.cause)) =
      some ([], .halted, .seqError) := by decide

/-- V-SCN-1. -/
theorem test_probe_found :
    (after (exec (.probe 0x77#7) (onBus [.ack 0#8 0#8]))).map (fun t => (t.trace, t.probeAck, t.upc)) =
      some ([.bus ⟨.write, 0x77#7, [0x00#8], 0⟩ (.ok []), .report (.found 0x77#7)], true, 1#9) := by decide

/-- V-SCN-3: a data NACK is not found, and no fault. -/
theorem test_probe_data_nack :
    (after (exec (.probe 0x10#7) (onBus [.nack .dataNack]))).map (fun t => (t.trace.length, t.probeAck, t.cause)) =
      some (1, false, .none) := by decide

/-- V-SCN-5, the last step: address 0x7F. -/
theorem test_scan_last_step :
    (after (exec .scan { onBus [.nack .addrNack] with busy := true, scanAddr := 127#8 })).map
        (fun t => (t.trace, t.scanAddr, t.busy, t.upc)) =
      some ([.bus ⟨.write, 0x7F#7, [0x00#8], 0⟩ (.err .addrNack)], 128#8, false, 1#9) := by decide

/-- V-SCN-8: a scan starts again at address 0. -/
theorem test_scan_restarts :
    (after (exec .scan { onBus [.ack 0#8 0#8] with scanAddr := 128#8 })).map (fun t => (t.trace, t.scanAddr, t.busy)) =
      some ([.bus ⟨.write, 0#7, [0x00#8], 0⟩ (.ok []), .report (.found 0#7)], 1#8, true) := by decide

/-- V-CAL-1. -/
theorem test_read_id_match :
    (after (exec .readId (onBus [.ack 0x55#8 0#8]))).map (fun t => (t.devId, t.idMatch, t.trace)) =
      some (some 0x55#8, true, [.bus ⟨.wtr, 0x77#7, [0xD0#8], 1⟩ (.ok [0x55#8]), .report (.idIs 85#8)]) := by decide

/-- V-CAL-3. -/
theorem test_read_id_fatal :
    (after (exec .readId (onBus [.nack .transport]))).map (fun t => (t.runState, t.cause.code, t.faultInfo, t.devId)) =
      some (.halted, 0x03#8, some ⟨0x04#8, some 0x77#7, some 0xD0#8, some .transport, none⟩, none) := by decide

/-- V-CAL-5. -/
theorem test_read_reg16_stages :
    (after (exec (.readReg16 0xB2#8 .ac5) (onBus [.ack 0x12#8 0x34#8]))).map (fun t => (t.calStage.ac5, t.stageWritten)) =
      some (some 4660#16, 0b0001#4) := by decide

/-- V-CAL-6. -/
theorem test_read_reg16_fails :
    (after (exec (.readReg16 0xBC#8 .mc) (onBus [.nack .dataNack]))).map
        (fun t => (t.runState, t.cause.code, t.faultInfo.bind (·.ptr), t.calStage.mc)) =
      some (.halted, 0x02#8, some 0xBC#8, none) := by decide

/-- V-CAL-8. -/
theorem test_commit_calib :
    (after (exec .commitCalib { State.reset with
        calStage := ⟨some 1#16, some 2#16, some 3#16, some 4#16⟩, stageWritten := 0b1111#4 })).map
        (fun t => (t.calRec, t.calibValid, t.stageWritten, t.trace)) =
      some (some ⟨1#16, 2#16, 3#16, 4#16⟩, true, 0b0000#4, []) := by decide

/-- V-CAL-7. -/
theorem test_commit_calib_three_slots :
    (after (exec .commitCalib { State.reset with
        calStage := ⟨some 1#16, some 2#16, some 3#16, none⟩, stageWritten := 0b0111#4 })).map
        (fun t => (t.calRec, t.cause.code)) = some (none, 0x05#8) := by decide

/-- V-CAL-10, the last step: the four records in order. -/
theorem test_read_calib_commits :
    (after (exec .readCalib { State.reset with
        busy := true, calibIdx := 4#3, stageWritten := 0b1111#4
        calStage := ⟨some 408#16, some 0xC7D1#16, some 0xFFB8#16, some 2220#16⟩ })).map (fun t => (t.calRec, t.trace)) =
      some (some exampleCal, [.report (.ac5 408#16), .report (.ac6 0xC7D1#16), .report (.mc 0xFFB8#16),
        .report (.md 2220#16)]) := by decide

/-- V-CAL-11, the step that fails: the slots read stay, no record. -/
theorem test_read_calib_short_circuits :
    (after (exec .readCalib { onBus [.nack .dataNack] with
        busy := true, calibIdx := 2#3, stageWritten := 0b0011#4, calStage := ⟨some 408#16, some 0xC7D1#16, none, none⟩ })).map
        (fun t => (t.runState, t.stageWritten, t.calibIdx, t.calRec)) =
      some (.halted, 0b0011#4, 2#3, none) := by decide

/-- V-MEA-2. -/
theorem test_trigger_from_complete :
    (after (exec .trigger (inCycle .complete [.ack 0#8 0#8]))).map (fun t => (t.measState, t.trace)) =
      some (.triggered, [.bus ⟨.write, 0x77#7, [0xF4#8, 0x2E#8], 0⟩ (.ok [])]) := by decide

/-- V-MEA-3. -/
theorem test_trigger_fails :
    (after (exec .trigger (inCycle .idle [.nack .addrNack]))).map (fun t => (t.runState, t.cause.code, t.measState)) =
      some (.halted, 0x01#8, .idle) := by decide

/-- V-MEA-5, the second step. -/
theorem test_wait_conv_elapsed :
    (after (exec .waitConv { inCycle .converting [] with busy := true, timerWait := true, timerSignal := true })).map
        (fun t => (t.measState, t.busy, t.trace)) = some (.readMsb, false, [.timerElapsed]) := by decide

/-- V-MEA-17: no signal, no step. -/
theorem test_wait_conv_waits :
    after (exec .waitConv { inCycle .converting [] with busy := true, timerWait := true }) =
      some { inCycle .converting [] with busy := true, timerWait := true } := by decide

/-- V-MEA-7. -/
theorem test_read_msb :
    (after (exec .readMsb (inCycle .readMsb [.ack 0x6C#8 0xFF#8]))).map (fun t => (t.raw, t.measState, t.rawValid)) =
      some (some 0x6C00#16, .readLsb, false) := by decide

/-- V-MEA-8. -/
theorem test_read_msb_too_early :
    (after (exec .readMsb (inCycle .idle [.ack 0x6C#8 0#8]))).map (fun t => (t.cause.code, t.trace)) =
      some (0x05#8, []) := by decide

/-- V-MEA-9. -/
theorem test_read_lsb :
    (after (exec .readLsb { inCycle .readLsb [.ack 0xFA#8 0#8] with raw := some 0x6C00#16 })).map
        (fun t => (t.raw, t.rawValid, t.measState)) = some (some 0x6CFA#16, true, .complete) := by decide

/-- V-MEA-11. -/
theorem test_read_lsb_fails :
    (after (exec .readLsb { inCycle .readLsb [.nack .dataNack] with raw := some 0x6C00#16 })).map
        (fun t => (t.raw, t.rawValid, t.cause.code)) = some (some 0x6C00#16, false, 0x02#8) := by decide

/-- V-MEA-12, the first step: the op goes on at the same `upc`. -/
theorem test_measure_triggers :
    (after (exec .measure { inCycle .complete [.ack 0#8 0#8] with rawValid := true })).map
        (fun t => (t.busy, t.upc, t.measState, t.rawValid)) = some (true, 0#9, .triggered, false) := by decide

/-- V-MEA-13. -/
theorem test_measure_lsb_fails :
    (after (exec .measure { inCycle .readLsb [.nack .dataNack] with busy := true, raw := some 0x6C00#16 })).map
        (fun t => (t.measState, t.raw, t.faultInfo)) =
      some (.readLsb, some 0x6C00#16, some ⟨0x0C#8, some 0x77#7, some 0xF7#8, some .dataNack, none⟩) := by decide

/-- V-CMP-7: the product rounds down. -/
theorem test_cmp_x1_rounds_down :
    (after (exec .cmpX1 (measuredWith 0x8000#16 ⟨32767#16, 32767#16, 0xFFB8#16, 2220#16⟩))).map (fun t => t.x1) =
      some (some (BitVec.ofInt 32 (-65534))) := by decide

/-- V-OPC-1. -/
theorem test_cmp_x1_without_raw :
    (after (exec .cmpX1 { measured with rawValid := false })).map (fun t => (t.cause.code, t.faultInfo.map (·.op))) =
      some (0x05#8, some 0x0D#8) := by decide

/-- V-CMP-11: the largest x2. -/
theorem test_cmp_x2_largest :
    (after (exec .cmpX2 { measuredWith 0xFFFF#16 ⟨1#16, 0#16, 0x8000#16, 0#16⟩ with x1 := some (BitVec.ofInt 32 (-1)) })).map
        (fun t => t.x2) = some (some (BitVec.ofInt 32 67108864)) := by decide

/-- V-OPC-3. -/
theorem test_cmp_x2_divisor_zero :
    (after (exec .cmpX2 { measuredWith 27898#16 divisorZeroCal with x1 := some 0#32 })).map
        (fun t => (t.runState, t.cause.code, t.x1, t.x2)) = some (.halted, 0x04#8, some 0#32, none) := by decide

/-- V-CMP-1. -/
theorem test_cmp_b5 :
    (after (exec .cmpB5 { measured with x1 := some 526#32, x2 := some (BitVec.ofInt 32 (-53)) })).map (fun t => t.b5) =
      some (some 473#32) := by decide

/-- V-OPC-5. -/
theorem test_cmp_t :
    (after (exec .cmpT { measured with b5 := some 473#32, consecFail := 1#8 })).map (fun t => (t.t, t.consecFail)) =
      some (some 3#32, 0#8) := by decide

/-- The CMP_T vectors of 2.6 around the asymmetry of R201. -/
theorem test_formula_t_asymmetry :
    [151, 152, -152, -153, -168, -169].map (fun b => (formulaT (BitVec.ofInt 32 b)).toInt) = [0, 1, 0, -1, -1, -1] := by
  decide

/-- V-CMP-1 (V-SRC-5, corrected by 90_conflicts.md C1). -/
theorem test_compensate :
    (after (exec .compensate measured)).map (fun t => (t.x1, t.x2, t.b5, t.t)) =
      some (some 526#32, some (BitVec.ofInt 32 (-53)), some 473#32, some 3#32) := by decide

/-- V-OPC-6. -/
theorem test_compensate_divisor_zero :
    (after (exec .compensate (measuredWith 27898#16 divisorZeroCal))).map (fun t => (t.cause.code, t.x1, t.t)) =
      some (0x04#8, none, none) := by decide

/-- V-SEQ-5. -/
theorem test_jmp : (after (exec (.jmp 4#8) { State.reset with upc := 7#9 })).map (fun t => t.upc) = some 4#9 := by decide

/-- V-SEQ-8. -/
theorem test_halt :
    (after (exec .halt { State.reset with upc := 5#9 })).map (fun t => (t.runState, t.upc, t.cause)) =
      some (.halted, 5#9, .none) := by decide

/-! ### Faults, reset, the step -/

/-- V-FLT-2: a cycle fault below the bound. -/
theorem test_fault_resumes :
    (after (exec .measure { inCycle .complete [.nack .addrNack] with cfg := continuing 2#8, upc := 4#9 })).map
        (fun t => (t.trace.getLast?, t.consecFail, t.measState, t.upc, t.runState)) =
      some (some (.report (.cycleError .busAddrNack)), 1#8, .idle, 4#9, .running) := by decide

/-- V-FLT-4: at the bound, saturated. -/
theorem test_fault_saturates :
    (after (exec .measure { inCycle .idle [.nack .addrNack] with cfg := continuing 255#8, consecFail := 255#8 })).map
        (fun t => (t.consecFail, t.runState)) = some (255#8, .halted) := by decide

/-- V-RST-1. -/
theorem test_reset_from_halted :
    (after (step { measured with runState := .halted, cause := .seqError, ticks := [.reset] })).map
        (fun t => (t.upc, t.runState, t.calibValid, t.cause, t.trace.getLast?)) =
      some (0#9, .running, false, .none, some .reset) := by decide

/-- P6, the second step: the fetch at 9 of a ROM of one word; RESUME_UPC, which the program does not use, inside it (log 7). -/
theorem test_fetch_outside_rom :
    (after (step { State.reset with cfg := { Config.reference with rom := [0x00000912#32], resumeUpc := 0#8 }, upc := 9#9 })).map
        (fun t => (t.runState, t.upc, t.cause.code, t.faultUpc, t.faultInfo)) =
      some (.halted, 9#9, 0x06#8, 9#9, some ⟨0x00#8, none, none, none, none⟩) := by decide

/-- P7: reserved bits set; RESUME_UPC inside the ROM (log 7). -/
theorem test_step_illegal_word :
    (after (step { State.reset with cfg := { Config.reference with rom := [0x01000013#32], resumeUpc := 0#8 } })).map
        (fun t => (t.runState, t.cause.code, t.faultInfo)) =
      some (.halted, 0x06#8, some ⟨0x13#8, none, none, none, some 0x01000013#32⟩) := by decide

/-- U15: a RESUME_UPC outside the ROM takes no step. -/
theorem test_step_refuses_resume :
    step { State.reset with cfg := { Config.reference with resumeUpc := 8#8 } } = .fault .configOutsideType := rfl

/-- A word placed in a ROM that does not reach RESUME_UPC runs: the ROM is lengthened. -/
theorem test_placed_word_lengthens_rom :
    (after (step ({ State.reset with cfg := { Config.reference with rom := [0x03#32] } }.withFetchWord 32 0x00000013))).map
        (fun t => (t.runState, t.cfg.rom.length)) = some (.halted, 5) := by decide

/-- A word placed for the next fetch runs right after reset. -/
theorem test_placed_word_runs :
    (after (step (State.reset.withFetchWord 32 0x00000013))).map (fun t => (t.runState, t.cause)) =
      some (.halted, .none) := by decide

/-! ### Byte order, arithmetic, rendering -/

/-- V-BE-1, V-BE-3, V-BE-6, V-BE-8. -/
theorem test_be16 :
    (s16 (be16 0x12#8 0x34#8), s16 (be16 0xC7#8 0xD1#8), s16 (be16 0x80#8 0x00#8), s16 (be16 0xFF#8 0xFF#8)) =
      (4660, -14383, -32768, -1) := by decide

/-- The `asr` vectors of 2.6. -/
theorem test_asr : (asr (-1) 15, asr (-32769) 15, asr (-161) 4, asr 17250648 15) = (-1, -2, -11, 526) := by decide

/-- The `tdiv` vectors of 2.6. -/
theorem test_tdiv :
    (tdiv 7 2, tdiv (-7) 2, tdiv 7 (-2), tdiv (-7) (-2), tdiv (-67108864) (-1)) = (3, -3, -3, 3, 67108864) := by decide

/-- V-SRC-10. -/
theorem test_render_found :
    renderLine .upper (fun _ => []) (.found 0x3C#7) = "Found device at address 0x3C".toList ∧
    renderLine .lower (fun _ => []) (.found 0x3C#7) = "Found device at address 0x3c".toList := by decide

/-- V-SRC-10. -/
theorem test_render_numbers :
    renderLine .upper (fun _ => []) (.ac6 0xC7D1#16) = "AC6 = -14383".toList ∧
    renderLine .upper (fun _ => []) (.idIs 85#8) = "Device ID is 85".toList := by decide

/-! ### Witnesses: states and operands that meet the hypotheses, one for each clause -/

/-- A reference run at `upc` with nothing pending. -/
def atUpc (n : Upc) : State :=
  { State.reset with upc := n }

/-- The run stands at an op in RUNNING, no reset due: the common hypotheses of the statements about steps. -/
def readyToStep (s : State) : Bool :=
  s.cfg.wf && s.ticks.head? != some .reset && s.runState == .running

theorem witness_HostResetRestoresResetState :
    let s := { measured with runState := .halted, ticks := [.reset, .quiet] }
    let pending := { s with busReq := some triggerReq }
    (s.cfg.wf = true ∧ s.ticks = .reset :: [.quiet] ∧ s.busReq = none) ∧
    (pending.cfg.wf = true ∧ pending.ticks = .reset :: [.quiet] ∧ pending.busReq ≠ none) := by decide

theorem witness_ConfigurationOutsideTypeStops :
    { Config.reference with rom := [] }.rom = [] ∧
    256 < longRom.rom.length ∧ { Config.reference with maxConsecFail := 0#8 }.maxConsecFail = 0#8 ∧
    { Config.reference with resumeUpc := 8#8 }.rom.length ≤ { Config.reference with resumeUpc := 8#8 }.resumeUpc.toNat :=
  ⟨rfl, by rw [longRom_length]; decide, rfl, by decide⟩

theorem witness_ConfigurationNeverWritten : ∃ t, step (onBus [.ack 1#8 2#8]) = .next t ∧ t.upc = 1#9 := ⟨_, rfl, rfl⟩

theorem witness_EncodeOfDecodeIsTheWord : decode 0x0003BE05#32 = .ok (.readReg16 0xBE#8 .md) := by decide

/-- Both sides of the equivalence occur. -/
theorem witness_DecodeAcceptsExactlyLegalFields :
    (fieldsOf 0x00007F02#32).wf = true ∧ (fieldsOf 0x00008002#32).wf = false := by decide

theorem witness_StepRunsTheDecodedOp :
    let s := { measured with ticks := [.elapsed] }
    s.cfg.wf = true ∧ s.ticks.head? ≠ some .reset ∧ s.runState = .running ∧
      s.cfg.rom[s.upc.toNat]? = some 0x00000011#32 ∧ decode 0x00000011#32 = .ok .compensate := by decide

/-- At the boundary: `upc` equal to ROM_LEN; and a word with one reserved bit set. -/
theorem witness_IllegalFetchHalts :
    let out := atUpc 8#9
    let bad := { State.reset with cfg := { Config.reference with rom := [0x01000013#32], resumeUpc := 0#8 } }
    (readyToStep out = true ∧ out.cfg.rom.length ≤ out.upc.toNat) ∧
    (readyToStep bad = true ∧ bad.cfg.rom[bad.upc.toNat]? = some 0x01000013#32 ∧
      decode 0x01000013#32 = .error .reservedNotZero) := by decide

theorem witness_HaltedTakesNoStep :
    let s := { measured with runState := .halted, timerWait := true, ticks := [.elapsed] }
    s.cfg.wf = true ∧ s.ticks.head? ≠ some .reset ∧ s.runState = .halted := by decide

theorem witness_UnansweredStepIsNotTaken :
    let bus := { atUpc 2#9 with busIn := [.hold, .ack 0x55#8 0#8] }
    let timer := { atUpc 4#9 with busy := true, measState := .converting, timerWait := true }
    (readyToStep bus = true ∧ fetch bus = .ok .readId ∧ busRequest .readId (atBoundary bus) = some (readReq 0xD0#8 1) ∧
      answerReady bus = false) ∧
    (readyToStep timer = true ∧ fetch timer = .ok .measure ∧ awaitsTimer .measure (atBoundary timer) = true ∧
      (atBoundary timer).timerSignal = false) := by decide

theorem witness_PlacedWordRunsNext :
    State.reset.cfg.rom.length ≤ 256 ∧ State.reset.cfg.maxConsecFail ≠ 0#8 := by decide

theorem witness_StepAppendsOneInteractionThenRecords :
    let s := { atUpc 2#9 with busIn := [.ack 0x55#8 0#8] }
    s.ticks.head? ≠ some .reset ∧ ∃ t, step s = .next t ∧ t.trace.length = 2 := ⟨by decide, _, rfl, rfl⟩

/-- One failure for each clause; the bound is reached in the second and not in the third. -/
theorem witness_FaultProcedureByClass :
    let s := { State.reset with cfg := continuing 2#8 }
    failClass 0x07#8 .busDataNack = .startup ∧ failClass 0x0C#8 .seqError = .fatal ∧
    (failClass 0x11#8 .formulaDiv0 = .cycle ∧ State.reset.cfg.failPolicy = .halt) ∧
    (s.cfg.failPolicy = .cont ∧
      s.cfg.maxConsecFail.toNat ≤ min ({ s with consecFail := 1#8 }.consecFail.toNat + 1) 255 ∧
      min (s.consecFail.toNat + 1) 255 < s.cfg.maxConsecFail.toNat) := by decide

theorem witness_HaltPolicyFaultsHalt :
    let s := measuredWith 27898#16 divisorZeroCal
    s.cfg.failPolicy = .halt ∧ ∃ t, exec .compensate s = .next t ∧ t.cause ≠ s.cause :=
  ⟨by decide, _, rfl, by decide⟩

theorem witness_ContinuePolicyFailsOnlyTheCycle :
    let s := { inCycle .complete [.nack .addrNack] with cfg := continuing 2#8 }
    busRequest .measure s = some triggerReq ∧ s.busIn = .nack .addrNack :: [] ∧ s.cfg.failPolicy = .cont ∧
      s.consecFail.toNat + 1 < s.cfg.maxConsecFail.toNat := by decide

/-- What the consistency of a state at rest comes to: no op in progress, no wait, no request, no fault taken. -/
theorem inv_at_rest {s : State} (hcal : s.calibValid = true ↔ s.calRec.isSome = true)
    (hraw : s.rawValid = true → s.measState = .complete ∧ s.raw.isSome = true) (hm : s.measState.mayTrigger = true)
    (hrest : s.stageWritten = 0#4 ∧ s.scanAddr = 0#8 ∧ s.calibIdx = 0#3 ∧ (s.idMatch = false ∧ s.devId = none) ∧
      s.cause = .none ∧ s.faultInfo = none ∧ s.timerWait = false ∧ s.timerSignal = false ∧ s.busy = false ∧ s.busReq = none) : s.Inv := by
  obtain ⟨h1, h2, h3, ⟨h4, h4'⟩, h5, h6, h7, h8, h9, h10⟩ := hrest
  refine
    { calib_valid_iff := hcal, raw_valid_complete := hraw, lsb_has_raw := ?_, staged_has_value := ?_, scan_range := ?_
      calib_idx_range := ?_, id_match_only_expected := ?_, id_match_iff_fatal := ?_, cause_iff_info := ?_, wait_iff_converting := ?_
      signal_has_wait := ?_, converting_in_wait := ?_, halted_at_rest := fun _ => ⟨h9, h10⟩, busy_in_progress := ?_
      outstanding_is_next := ?_ }
  · intro h; simp [h, MeasState.mayTrigger] at hm
  · intro slot h; simp [h1] at h
  · simp [h2]
  · simp [h3]
  · simp [h4]
  · simp [h4, h4']
  · simp [h5, h6]
  · constructor
    · simp [h7]
    · intro h; simp [h, MeasState.mayTrigger] at hm
  · simp [h8]
  · intro h; simp [h, MeasState.mayTrigger] at hm
  · simp [h9]
  · simp [h10]

/-- The measured state is consistent. -/
theorem measured_inv : measured.Inv :=
  inv_at_rest (by decide) (by decide) (by decide) (by decide)

/-- So is a state where COMPENSATE's precondition fails. -/
theorem unmeasured_inv : (atUpc 5#9).Inv :=
  inv_at_rest (by decide) (by decide) (by decide) (by decide)

/-- A step that appends a transaction; one that leaves its request outstanding, from a consistent state; a request asked for. -/
theorem witness_RequestsAreThoseOfTheTable :
    (∃ t, step { atUpc 2#9 with busIn := [.ack 0x55#8 0#8] } = .next t ∧
      .bus (readReq 0xD0#8 1) (.ok [0x55#8]) ∈ t.trace) ∧
    ((atUpc 2#9).Inv ∧ ∃ t, step (atUpc 2#9) = .next t ∧ t.busReq = some (readReq 0xD0#8 1)) ∧
    busRequest .readLsb { inCycle .readLsb [] with raw := some 0x6C00#16 } = some ⟨.wtr, 0x77#7, [0xF7#8], 1⟩ :=
  ⟨⟨_, rfl, by decide⟩, ⟨inv_at_rest (by decide) (by decide) (by decide) (by decide), _, rfl, rfl⟩, by decide⟩

/-- Both sides of the equivalence occur: the precondition holds in the first state and fails in the second. -/
theorem witness_SeqErrorExactlyOnFailedPrecondition :
    (measured.Inv ∧ fetch measured = .ok .compensate ∧ measured.cause ≠ .seqError ∧
      precondition .compensate measured = true ∧ ∃ t, exec .compensate measured = .next t) ∧
    ((atUpc 5#9).Inv ∧ fetch (atUpc 5#9) = .ok .compensate ∧ (atUpc 5#9).cause ≠ .seqError ∧
      precondition .compensate (atUpc 5#9) = false ∧ ∃ t, exec .compensate (atUpc 5#9) = .next t) :=
  ⟨⟨measured_inv, by decide, by decide, by decide, _, rfl⟩, unmeasured_inv, by decide, by decide, by decide, _, rfl⟩

/-- Each alternative occurs. -/
theorem witness_OnlyHaltAndFaultsHalt :
    (∃ t, exec .halt State.reset = .next t ∧ State.reset.runState = .running ∧ t.runState = .halted) ∧
    (∃ t, exec .cmpX1 State.reset = .next t ∧ State.reset.runState = .running ∧ t.runState = .halted) :=
  ⟨⟨_, rfl, rfl, rfl⟩, _, rfl, rfl, rfl⟩

theorem witness_ReportEmitsTheHeldValue :
    let s := { measured with t := some 3#32 }
    (s.calibValid = true ∧ s.calRec = some exampleCal) ∧ s.t = some 3#32 ∧
    State.reset.calibValid = false ∧ State.reset.t = none := by decide

theorem witness_ProbeReportsExactlyTheFound :
    (onBus [.ack 1#8 2#8]).busIn = .ack 1#8 2#8 :: [] ∧ (onBus [.nack .dataNack]).busIn = .nack .dataNack :: [] := by
  decide

/-- The first step, and the steps at addresses 1 and 127; a found one and one that is not. -/
theorem witness_ScanStepProbesOneAddress :
    let at1 := { onBus [.ack 0#8 0#8] with busy := true, scanAddr := 1#8 }
    let at127 := { onBus [.nack .addrNack] with busy := true, scanAddr := 127#8 }
    ((onBus [.nack .addrNack]).busy = false ∧ (onBus [.nack .addrNack]).busIn = .nack .addrNack :: []) ∧
    (at1.busy = true ∧ at1.scanAddr.toNat = (1#7).toNat ∧ at1.busIn = .ack 0#8 0#8 :: []) ∧
    (at127.busy = true ∧ at127.scanAddr.toNat = (127#7).toNat ∧ at127.busIn = .nack .addrNack :: []) := by decide

theorem witness_ScanIsThe128Probes :
    let turns := BusTurn.ack 0#8 0#8 :: List.replicate 127 (.nack .addrNack)
    (onBus (turns ++ [.hold])).busy = false ∧ turns.length = 128 ∧ .hold ∉ turns ∧
      (onBus (turns ++ [.hold])).busIn = turns ++ [.hold] := by
  refine ⟨rfl, by rw [List.length_cons, List.length_replicate], ?_, rfl⟩
  simp

theorem witness_ReadIdRecordsTheIdentity :
    let undetected := { onBus [.nack .transport] with
      cfg := { Config.reference with idReadFailMode := .reportUndetected } }
    (onBus [.ack 0x55#8 0#8]).busIn = .ack 0x55#8 0#8 :: [] ∧
    ((onBus [.nack .transport]).busIn = .nack .transport :: [] ∧
      (onBus [.nack .transport]).cfg.idReadFailMode = .fatal) ∧
    (undetected.busIn = .nack .transport :: [] ∧ undetected.cfg.idReadFailMode = .reportUndetected) := by decide

theorem witness_ReadReg16StagesTheRegister :
    (onBus [.ack 0x12#8 0x34#8]).busIn = .ack 0x12#8 0x34#8 :: [] ∧
    (onBus [.nack .dataNack]).busIn = .nack .dataNack :: [] := by decide

theorem witness_CommitCalibBuildsTheRecord :
    let s := { State.reset with calStage := ⟨some 1#16, some 2#16, some 3#16, some 4#16⟩, stageWritten := 0b1111#4 }
    (s.calibValid = false ∧ s.stageWritten = 0b1111#4 ∧ s.calStage = ⟨some 1#16, some 2#16, some 3#16, some 4#16⟩) ∧
    measured.calibValid = true ∧ { s with stageWritten := 0b0111#4 }.stageWritten ≠ 0b1111#4 := by decide

/-- The guard; the first read and the last one, answered and failed; the commit. -/
theorem witness_ReadCalibStepByStep :
    let last := { onBus [.nack .dataNack] with busy := true, calibIdx := 3#3, stageWritten := 0b0111#4 }
    let commit := { State.reset with
      busy := true, calibIdx := 4#3, calStage := ⟨some 1#16, some 2#16, some 3#16, some 4#16⟩ }
    (measured.busy = false ∧ measured.calibValid = true) ∧
    ((onBus [.ack 1#8 2#8]).busy = false ∧ (onBus [.ack 1#8 2#8]).calibValid = false ∧
      (onBus [.ack 1#8 2#8]).busIn = .ack 1#8 2#8 :: []) ∧
    (last.busy = true ∧ last.calibIdx = 3#3 ∧ last.busIn = .nack .dataNack :: []) ∧
    (commit.busy = true ∧ commit.calibIdx = 4#3 ∧
      commit.calStage = ⟨some 1#16, some 2#16, some 3#16, some 4#16⟩) := by decide

theorem witness_ReadCalibIsTheNineOps :
    let s := onBus [.ack 0x01#8 0x98#8, .ack 0xC7#8 0xD1#8, .ack 0xFF#8 0xB8#8, .ack 0x08#8 0xAC#8]
    s.busy = false ∧ s.calibValid = false ∧
      s.busIn = .ack 0x01#8 0x98#8 :: .ack 0xC7#8 0xD1#8 :: .ack 0xFF#8 0xB8#8 :: .ack 0x08#8 0xAC#8 :: [] := by decide

/-- One op that makes the record appear, one that does not. -/
theorem witness_RecordAppearsOnlyWhole :
    let s := { State.reset with calStage := ⟨some 1#16, some 2#16, some 3#16, some 4#16⟩, stageWritten := 0b1111#4 }
    s.calibValid = false ∧ (∃ t, exec .commitCalib s = .next t ∧ t.calibValid = true) ∧
      ∃ t, exec (.jmp 0#8) s = .next t ∧ t.calibValid = false := ⟨rfl, ⟨_, rfl, rfl⟩, _, rfl, rfl⟩

theorem witness_RecordIsImmutableUntilReset :
    measured.Inv ∧ measured.ticks.head? ≠ some .reset ∧ measured.calibValid = true ∧ ∃ t, step measured = .next t :=
  ⟨measured_inv, by decide, rfl, _, rfl⟩

theorem witness_IdentityGatesNothing : ∃ t, exec .compensate measured = .next t := ⟨_, rfl⟩

theorem witness_ProbeByteChangesNothingElse : ∃ t, exec (.probe 0x77#7) (onBus [.ack 0#8 0#8]) = .next t := ⟨_, rfl⟩

theorem witness_TriggerStartsTheConversion :
    ((inCycle .complete [.ack 0#8 0#8]).measState = .complete ∧
      (inCycle .complete [.ack 0#8 0#8]).busIn = .ack 0#8 0#8 :: []) ∧
    ((inCycle .idle [.nack .addrNack]).measState = .idle ∧
      (inCycle .idle [.nack .addrNack]).busIn = .nack .addrNack :: []) ∧
    ((inCycle .readMsb []).measState ≠ .idle ∧ (inCycle .readMsb []).measState ≠ .complete) := by decide

theorem witness_WaitConvWaitsForTheSignal :
    let waiting := { inCycle .converting [] with busy := true, timerWait := true }
    ((inCycle .triggered []).busy = false ∧ (inCycle .triggered []).measState = .triggered) ∧
    ({ waiting with timerSignal := true }.busy = true ∧ { waiting with timerSignal := true }.measState = .converting ∧
      { waiting with timerSignal := true }.timerSignal = true) ∧
    (waiting.busy = true ∧ waiting.timerSignal = false) ∧
    ((inCycle .idle []).busy = false ∧ (inCycle .idle []).measState ≠ .triggered) := by decide

theorem witness_ReadMsbTakesTheHighByte :
    ((inCycle .readMsb [.ack 0x6C#8 0#8]).measState = .readMsb ∧
      (inCycle .readMsb [.ack 0x6C#8 0#8]).busIn = .ack 0x6C#8 0#8 :: []) ∧
    ((inCycle .readMsb [.nack .transport]).measState = .readMsb ∧
      (inCycle .readMsb [.nack .transport]).busIn = .nack .transport :: []) ∧
    (inCycle .idle []).measState ≠ .readMsb := by decide

theorem witness_ReadLsbCompletesTheRawValue :
    let s := { inCycle .readLsb [.ack 0xFA#8 0#8] with raw := some 0x6C00#16 }
    (s.measState = .readLsb ∧ s.raw = some (0x6C#8 ++ 0x00#8) ∧ s.busIn = .ack 0xFA#8 0#8 :: []) ∧
    { s with busIn := [.nack .dataNack] }.busIn = .nack .dataNack :: [] ∧
    (inCycle .readMsb []).measState ≠ .readLsb := by decide

/-- One state for each transition, one for a failed transaction, one for the guard. -/
theorem witness_MeasureMakesEachTransition :
    let on (m : MeasState) : State := { inCycle m [.ack 0x6C#8 0#8] with busy := true, raw := some 0x6C00#16 }
    ((inCycle .idle [.ack 0#8 0#8]).busy = false ∧ (inCycle .idle [.ack 0#8 0#8]).measState = .idle) ∧
    ((on .triggered).busy = true ∧ (on .triggered).measState = .triggered) ∧
    ({ on .converting with timerSignal := true }.timerSignal = true ∧ (on .converting).timerSignal = false) ∧
    ((on .readMsb).measState = .readMsb ∧ (on .readMsb).busIn = .ack 0x6C#8 0#8 :: []) ∧
    ((on .readLsb).measState = .readLsb ∧ (on .readLsb).raw = some (0x6C#8 ++ 0x00#8)) ∧
    (busRequest .measure { on .readLsb with busIn := [.nack .dataNack] } = some (readReq 0xF7#8 1)) ∧
    ((inCycle .readMsb []).busy = false ∧ (inCycle .readMsb []).measState ≠ .idle ∧
      (inCycle .readMsb []).measState ≠ .complete) := by decide

theorem witness_MeasureDoesWhatThePrimitivesDo :
    ((inCycle .complete [.ack 0#8 0#8]).busy = false ∧ (inCycle .complete [.ack 0#8 0#8]).measState.mayTrigger = true) ∧
    ({ inCycle .converting [] with busy := true }.busy = true ∧
      { inCycle .converting [] with busy := true }.measState.mayTrigger = false) := by decide

/-- TRIGGER and MEASURE, each with a failed write. -/
theorem witness_NoReadsAfterAFailedTrigger :
    let s := inCycle .complete [.nack .addrNack]
    (busRequest .trigger s = some triggerReq ∧ s.busIn = .nack .addrNack :: [] ∧ ∃ t, exec .trigger s = .next t) ∧
    (busRequest .measure s = some triggerReq ∧ ∃ t, exec .measure s = .next t) :=
  ⟨⟨by decide, rfl, _, rfl⟩, by decide, _, rfl⟩

theorem witness_CmpX1ComputesX1 :
    (measured.rawValid = true ∧ measured.raw = some 27898#16 ∧ measured.calibValid = true ∧
      measured.calRec = some exampleCal) ∧
    State.reset.rawValid = false ∧ State.reset.calibValid = false := by decide

theorem witness_CmpX2ComputesX2 :
    let s := { measured with x1 := some 526#32 }
    (s.x1 = some 526#32 ∧ s.calibValid = true ∧ s.calRec = some exampleCal ∧
      (526#32).toInt + s16 exampleCal.md ≠ 0) ∧
    (0#32).toInt + s16 divisorZeroCal.md = 0 ∧ State.reset.x1 = none ∧ State.reset.calibValid = false := by decide

/-- With the widest sum R190 gives, V-CMP-11's neighbour 65535 + 67108864. -/
theorem witness_CmpB5AddsX1AndX2 :
    let s := { measured with x1 := some 65535#32, x2 := some 67108864#32 }
    (s.x1 = some 65535#32 ∧ s.x2 = some 67108864#32 ∧
      -2147483648 ≤ (65535#32).toInt + (67108864#32).toInt ∧ (65535#32).toInt + (67108864#32).toInt ≤ 2147483647) ∧
    State.reset.x1 = none ∧ State.reset.x2 = none := by decide

theorem witness_CmpTComputesTheTemperature :
    { measured with b5 := some 473#32 }.b5 = some 473#32 ∧ State.reset.b5 = none := by decide

theorem witness_CompensateEvaluatesTheFormula :
    (measured.rawValid = true ∧ measured.raw = some 27898#16 ∧ measured.calibValid = true ∧
      measured.calRec = some exampleCal ∧
      asr ((s16 27898#16 - s16 exampleCal.ac6) * s16 exampleCal.ac5) 15 + s16 exampleCal.md ≠ 0) ∧
    asr ((s16 27898#16 - s16 divisorZeroCal.ac6) * s16 divisorZeroCal.ac5) 15 + s16 divisorZeroCal.md = 0 ∧
    State.reset.rawValid = false ∧ State.reset.calibValid = false := by decide

theorem witness_CompensateIsTheFourOps :
    (measured.rawValid = true ∧ measured.raw = some 27898#16 ∧ measured.calibValid = true ∧
      measured.calRec = some exampleCal) ∧
    comp 27898#16 exampleCal = .ok 526#32 (BitVec.ofInt 32 (-53)) 473#32 3#32 ∧
    comp 27898#16 divisorZeroCal = .div0 0#32 := by decide

/-- V-CMP-8's inputs, x1 at its maximum; and V-CMP-14's, whose divisor is 0. -/
theorem witness_FormulaNeverOverflows :
    ((-65535 : Int) = s16 0x8000#16 - s16 32767#16 ∧ 2147450880 = -65535 * s16 0x8000#16 ∧
      65535 = asr 2147450880 15 ∧ 0 = shl (s16 0#16) 11 ∧ (65535 : Int) = 65535 + s16 0#16 ∧ (65535 : Int) ≠ 0 ∧
      0 = tdiv 0 65535 ∧ (65535 : Int) = 65535 + 0 ∧ 4096 = asr (65535 + 8) 4 ∧ 409 = tdiv 4096 10) ∧
    ((27898 : Int) = s16 27898#16 - s16 0#16 ∧ 0 = 27898 * s16 0#16 ∧ 0 = asr 0 15 ∧ 0 = shl (s16 0#16) 11 ∧
      (0 : Int) = 0 + s16 0#16) := by
  decide

/-- Each op of the frame completes: found, halted, jumped, reported. -/
theorem witness_FrameOfSequencerAndScanner :
    (∃ t, exec (.report .scanStart) State.reset = .next t) ∧ (∃ t, exec (.jmp 4#8) State.reset = .next t) ∧
    (∃ t, exec .halt State.reset = .next t) ∧ (∃ t, exec (.probe 0x77#7) (onBus [.ack 0#8 0#8]) = .next t) ∧
    (∃ t, exec .scan (onBus [.ack 0#8 0#8]) = .next t) :=
  ⟨⟨_, rfl⟩, ⟨_, rfl⟩, ⟨_, rfl⟩, ⟨_, rfl⟩, _, rfl⟩

theorem witness_FrameOfCalibrationOps :
    (∃ t, exec .readId (onBus [.ack 0x55#8 0#8]) = .next t ∧ t.idMatch = true) ∧
    (∃ t, exec (.readReg16 0xB2#8 .ac5) (onBus [.ack 0x12#8 0x34#8]) = .next t ∧ t.stageWritten = 0b0001#4) ∧
    (∃ t, exec .commitCalib State.reset = .next t) ∧
    (∃ t, exec .readCalib (onBus [.ack 1#8 2#8]) = .next t ∧ t.calibIdx = 1#3) :=
  ⟨⟨_, rfl, rfl⟩, ⟨_, rfl, rfl⟩, ⟨_, rfl⟩, _, rfl, rfl⟩

theorem witness_FrameOfMeasurementOps :
    (∃ t, exec .trigger (inCycle .idle [.ack 0#8 0#8]) = .next t ∧ t.measState = .triggered) ∧
    (∃ t, exec .readMsb (inCycle .readMsb [.ack 0x6C#8 0#8]) = .next t ∧ t.measState = .readLsb) ∧
    (∃ t, exec .readLsb { inCycle .readLsb [.ack 0xFA#8 0#8] with raw := some 0x6C00#16 } = .next t ∧
      t.rawValid = true) ∧
    (∃ t, exec .measure (inCycle .idle [.ack 0#8 0#8]) = .next t ∧ t.busy = true) ∧
    (∃ t, exec .waitConv (inCycle .triggered []) = .next t ∧ t.measState = .converting) :=
  ⟨⟨_, rfl, rfl⟩, ⟨_, rfl, rfl⟩, ⟨_, rfl, rfl⟩, ⟨_, rfl, rfl⟩, _, rfl, rfl⟩

theorem witness_FrameOfCompensationOps :
    (∃ t, exec .cmpX1 measured = .next t) ∧ (∃ t, exec .cmpX2 { measured with x1 := some 526#32 } = .next t) ∧
    (∃ t, exec .cmpB5 { measured with x1 := some 526#32, x2 := some 1#32 } = .next t) ∧
    (∃ t, exec .cmpT { measured with b5 := some 473#32 } = .next t) ∧ (∃ t, exec .compensate measured = .next t) :=
  ⟨⟨_, rfl⟩, ⟨_, rfl⟩, ⟨_, rfl⟩, ⟨_, rfl⟩, _, rfl⟩

theorem witness_StepKeepsTheStateConsistent : measured.Inv ∧ ∃ t, step measured = .next t ∧ t.upc = 6#9 :=
  ⟨measured_inv, _, rfl, rfl⟩

/-- The registers at the bounds of R190. -/
theorem witness_StepKeepsTheFormulaRanges :
    let s := { measured with
      x1 := some (BitVec.ofInt 32 65535), x2 := some (BitVec.ofInt 32 (-67108864))
      b5 := some (BitVec.ofInt 32 (-67174399)), t := some (BitVec.ofInt 32 419840) }
    s.FormulaInRange ∧ ∃ t, step s = .next t := by
  refine ⟨⟨?_, ?_, ?_, ?_⟩, _, rfl⟩ <;> intro v h <;> cases h <;> decide

theorem witness_StepKeepsTheMeasurementProtocol : measured.ProtocolKept ∧ ∃ t, step measured = .next t :=
  ⟨⟨measured_inv, by decide, fun _ => by decide⟩, _, rfl⟩

theorem witness_ReferenceRomMeetsEveryPrecondition : measured.ReferenceRun ∧ ∃ t, step measured = .next t :=
  ⟨⟨measured_inv, by decide, by decide, by decide, by decide, fun _ => ⟨by decide, by decide, by decide, by decide, by decide⟩⟩,
    _, rfl⟩

end Sys2Proof.Tests
end

section
/-! The configuration (00_scope.md R6, 10_state.md R41): which ones `step` takes (93_implementation_defined.md U15), and
that no operation, no op and no step writes it. -/

namespace Sys2Proof.Machine

variable {s t : State}

/-! ### Which configurations take a step (R6, U15) -/

/-- The types of R6, with RESUME_UPC inside the ROM. -/
theorem configAccepted_iff (c : Config) :
    configAccepted c = true ↔
      c.rom ≠ [] ∧ c.rom.length ≤ 256 ∧ c.maxConsecFail ≠ 0#8 ∧ c.resumeUpc.toNat < c.rom.length := by
  simp [configAccepted, Config.wf, Config.inType, Config.romSizeLegal, Config.maxConsecLegal, Config.resumeInRom,
    and_assoc, Nat.one_le_iff_ne_zero]

theorem step_of_not_accepted (h : configAccepted s.cfg = false) : step s = .fault .configOutsideType := by
  rcases step_cases s with ⟨-, hs⟩ | ⟨ha, -⟩ | ⟨ha, -⟩ | ⟨ha, -⟩
  · exact hs
  all_goals exact absurd (h.symm.trans ha) Bool.false_ne_true

/-- Settles O3: each of the four conditions breaks one clause of `configAccepted_iff`. -/
theorem configurationOutsideTypeStops : Obligations.ConfigurationOutsideTypeStops := by
  intro s hout
  refine step_of_not_accepted (Bool.eq_false_iff.mpr fun ha => ?_)
  obtain ⟨hne, hlen, hmax, hres⟩ := (configAccepted_iff s.cfg).mp ha
  rcases hout with h | h | h | h
  · exact hne h
  · exact absurd hlen (Nat.not_le.mpr h)
  · exact hmax h
  · exact absurd hres (Nat.not_lt.mpr h)

/-! ### The shared operations keep the configuration -/

@[simp] theorem raiseFault_cfg (c : Cause) (info : FaultInfo) (s : State) : (raiseFault c info s).cfg = s.cfg := by
  obtain ⟨u, hu⟩ := raiseFault_frame c info s
  rw [hu]

@[simp] theorem seqFault_cfg (op : Byte) (s : State) : (seqFault op s).cfg = s.cfg := raiseFault_cfg _ _ s

@[simp] theorem busFault_cfg (op ptr : Byte) (k : ErrKind) (s : State) : (busFault op ptr k s).cfg = s.cfg :=
  raiseFault_cfg _ _ s

@[simp] theorem divFault_cfg (op : Byte) (s : State) : (divFault op s).cfg = s.cfg := raiseFault_cfg _ _ s

@[simp] theorem atBoundary_cfg (s : State) : (atBoundary s).cfg = s.cfg := by
  rw [atBoundary_eq]

theorem Answered.cfg_eq {req : BusReq} {a : (Byte × Byte) ⊕ ErrKind} {u : State} (h : Answered req s a u) :
    u.cfg = s.cfg := by
  cases h <;> rfl

theorem Awaiting.cfg_eq {req : BusReq} (h : Awaiting req s t) : t.cfg = s.cfg := by
  cases h <;> rfl

/-- A transaction keeps the configuration when what follows either answer does. -/
theorem transact_cfg {req : BusReq} {onOk : Byte → Byte → State → State} {onErr : ErrKind → State → State}
    (hok : ∀ b0 b1 u, (onOk b0 b1 u).cfg = u.cfg) (herr : ∀ k u, (onErr k u).cfg = u.cfg)
    (h : transact req s onOk onErr = .next t) : t.cfg = s.cfg := by
  rcases transact_cases h with ⟨b0, b1, u, ha, rfl⟩ | ⟨k, u, ha, rfl⟩ | hw
  · exact (hok b0 b1 u).trans ha.cfg_eq
  · exact (herr k u).trans ha.cfg_eq
  · exact hw.cfg_eq

theorem hostReset_cfg (h : hostReset s = .next t) : t.cfg = s.cfg := by
  unfold hostReset at h
  split at h <;> cases h
  rfl

/-! ### The named updates of the ops keep the configuration -/

@[simp] theorem probed_cfg (s : State) (a : BusAddr) (ack : Bool) : (s.probed a ack).cfg = s.cfg := by
  cases ack <;> rfl

@[simp] theorem scanned_cfg (s : State) (a : BitVec 8) (ack : Bool) : (s.scanned a ack).cfg = s.cfg := by
  unfold State.scanned
  split <;> simp

@[simp] theorem identified_cfg (s : State) (b : Byte) : (s.identified b).cfg = s.cfg := by
  unfold State.identified
  split <;> rfl

@[simp] theorem idReadFailed_cfg (s : State) (k : ErrKind) : (s.idReadFailed k).cfg = s.cfg := by
  unfold State.idReadFailed
  split
  · exact busFault_cfg _ _ _ s
  · rfl

@[simp] theorem stage_cfg (s : State) (slot : Slot) (b0 b1 : Byte) : (s.stage slot b0 b1).cfg = s.cfg := rfl

@[simp] theorem commit_cfg (s : State) (cal : CalRec) : (s.commit cal).cfg = s.cfg := rfl

@[simp] theorem enterCalib_cfg (s : State) : s.enterCalib.cfg = s.cfg := by
  unfold State.enterCalib
  split <;> rfl

@[simp] theorem calibRead_cfg (s : State) (slot : Slot) (i : BitVec 3) (b0 b1 : Byte) :
    (s.calibRead slot i b0 b1).cfg = s.cfg := enterCalib_cfg s

@[simp] theorem startPhase_cfg (s : State) : (startPhase s).cfg = s.cfg := rfl

@[simp] theorem beginMeasure_cfg (s : State) : s.beginMeasure.cfg = s.cfg := rfl

@[simp] theorem compensated_cfg (s : State) (x1 x2 b5 v : BitVec 32) : (s.compensated x1 x2 b5 v).cfg = s.cfg := rfl

/-! ### Scanner, calibration and sequencer ops keep the configuration -/

theorem execReport_cfg {tag : ReportTag} (h : execReport tag s = .next t) : t.cfg = s.cfg := by
  rcases execReport_next h with ⟨r, -, rfl⟩ | ⟨-, rfl⟩ <;> simp

theorem execProbe_cfg {a : BusAddr} (h : execProbe a s = .next t) : t.cfg = s.cfg :=
  transact_cfg (by simp) (by simp) h

theorem execScan_cfg (h : execScan s = .next t) : t.cfg = s.cfg :=
  transact_cfg (by simp) (by simp) h

theorem execReadId_cfg (h : execReadId s = .next t) : t.cfg = s.cfg :=
  transact_cfg (by simp) (by simp) h

theorem execReadReg16_cfg {p : Byte} {slot : Slot} (h : execReadReg16 p slot s = .next t) : t.cfg = s.cfg :=
  transact_cfg (by simp) (by simp) h

theorem execCommitCalib_cfg (h : execCommitCalib s = .next t) : t.cfg = s.cfg := by
  rcases execCommitCalib_next h with ⟨-, -, cal, -, rfl⟩ | ⟨-, rfl⟩ <;> simp

theorem execReadCalib_cfg (h : execReadCalib s = .next t) : t.cfg = s.cfg := by
  rcases execReadCalib_next h with
    ⟨-, -, rfl⟩ | ⟨-, ⟨slot, -, ⟨b0, b1, u, ha, rfl⟩ | ⟨k, u, ha, rfl⟩ | hw⟩ | ⟨-, ⟨cal, -, rfl⟩ | ⟨-, rfl⟩⟩⟩
  · simp
  · simp [ha.cfg_eq]
  · simp [ha.cfg_eq]
  · exact hw.cfg_eq
  · simp
  · simp

theorem execJmp_cfg {n : Byte} (h : execJmp n s = .next t) : t.cfg = s.cfg := by
  cases h; rfl

theorem execHalt_cfg (h : execHalt s = .next t) : t.cfg = s.cfg := by
  cases h; rfl

/-! ### The measurement's phases and ops keep the configuration -/

section Phases

variable {op : Byte} {fin : State → State}

theorem triggerPhase_cfg (hfin : ∀ u, (fin u).cfg = u.cfg) (h : triggerPhase op fin s = .next t) : t.cfg = s.cfg :=
  transact_cfg (by simp [hfin]) (by simp) h

theorem awaitPhase_cfg (hfin : ∀ u, (fin u).cfg = u.cfg) (h : awaitPhase fin s = .next t) : t.cfg = s.cfg := by
  rcases awaitPhase_next h with ⟨-, rfl⟩ | ⟨-, rfl⟩
  · exact hfin _
  · rfl

theorem msbPhase_cfg (hfin : ∀ u, (fin u).cfg = u.cfg) (h : msbPhase op fin s = .next t) : t.cfg = s.cfg :=
  transact_cfg (by simp [hfin]) (by simp) h

theorem lsbPhase_cfg (hfin : ∀ u, (fin u).cfg = u.cfg) (h : lsbPhase op fin s = .next t) : t.cfg = s.cfg := by
  rcases lsbPhase_next h with ⟨-, rfl⟩ | ⟨raw, -, ⟨b, b1, u, ha, rfl⟩ | ⟨k, u, ha, rfl⟩ | hw⟩
  · simp
  · exact (hfin _).trans ha.cfg_eq
  · simp [ha.cfg_eq]
  · exact hw.cfg_eq

end Phases

theorem execTrigger_cfg (h : execTrigger s = .next t) : t.cfg = s.cfg := by
  rcases execTrigger_next h with ⟨-, hp⟩ | ⟨-, rfl⟩
  · exact triggerPhase_cfg done_cfg hp
  · simp

theorem execWaitConv_cfg (h : execWaitConv s = .next t) : t.cfg = s.cfg := by
  rcases execWaitConv_next h with ⟨-, hp⟩ | ⟨-, -, rfl⟩ | ⟨-, -, rfl⟩
  · exact awaitPhase_cfg done_cfg hp
  · rfl
  · simp

theorem execReadMsb_cfg (h : execReadMsb s = .next t) : t.cfg = s.cfg := by
  rcases execReadMsb_next h with ⟨-, hp⟩ | ⟨-, rfl⟩
  · exact msbPhase_cfg done_cfg hp
  · simp

theorem execReadLsb_cfg (h : execReadLsb s = .next t) : t.cfg = s.cfg := by
  rcases execReadLsb_next h with ⟨-, hp⟩ | ⟨-, rfl⟩
  · exact lsbPhase_cfg done_cfg hp
  · simp

theorem execMeasure_cfg (h : execMeasure s = .next t) : t.cfg = s.cfg := by
  rcases execMeasure_next h with
    ⟨-, -, hp⟩ | ⟨-, -, rfl⟩ | ⟨-, ⟨-, rfl⟩ | ⟨-, hp⟩ | ⟨-, hp⟩ | ⟨-, hp⟩ | ⟨-, rfl⟩⟩
  · exact triggerPhase_cfg beginMeasure_cfg hp
  · simp
  · simp
  · exact awaitPhase_cfg (fun _ => rfl) hp
  · exact msbPhase_cfg (fun _ => rfl) hp
  · exact lsbPhase_cfg done_cfg hp
  · rfl

/-! ### The compensation ops keep the configuration -/

theorem execCmpX1_cfg (h : execCmpX1 s = .next t) : t.cfg = s.cfg := by
  rcases execCmpX1_next h with ⟨raw, cal, -, -, rfl⟩ | ⟨-, rfl⟩ <;> simp

theorem execCmpX2_cfg (h : execCmpX2 s = .next t) : t.cfg = s.cfg := by
  rcases execCmpX2_next h with ⟨x1, cal, -, -, ⟨-, rfl⟩ | ⟨-, rfl⟩⟩ | ⟨-, rfl⟩ <;> simp

theorem execCmpB5_cfg (h : execCmpB5 s = .next t) : t.cfg = s.cfg := by
  rcases execCmpB5_next h with ⟨x1, x2, -, -, rfl⟩ | ⟨-, rfl⟩ <;> simp

theorem execCmpT_cfg (h : execCmpT s = .next t) : t.cfg = s.cfg := by
  rcases execCmpT_next h with ⟨b5, -, rfl⟩ | ⟨-, rfl⟩ <;> simp

theorem execCompensate_cfg (h : execCompensate s = .next t) : t.cfg = s.cfg := by
  rcases execCompensate_next h with ⟨raw, cal, -, -, ⟨x1, x2, b5, v, -, rfl⟩ | ⟨x1, -, rfl⟩⟩ | ⟨-, rfl⟩ <;> simp

/-! ### Every op and every step -/

/-- No op writes the configuration (R41, R53). -/
theorem exec_cfg {i : Instr} (h : exec i s = .next t) : t.cfg = s.cfg := by
  cases i with
  | report tag => exact execReport_cfg h
  | probe a => exact execProbe_cfg h
  | scan => exact execScan_cfg h
  | readId => exact execReadId_cfg h
  | readReg16 p slot => exact execReadReg16_cfg h
  | commitCalib => exact execCommitCalib_cfg h
  | readCalib => exact execReadCalib_cfg h
  | trigger => exact execTrigger_cfg h
  | waitConv => exact execWaitConv_cfg h
  | readMsb => exact execReadMsb_cfg h
  | readLsb => exact execReadLsb_cfg h
  | measure => exact execMeasure_cfg h
  | cmpX1 => exact execCmpX1_cfg h
  | cmpX2 => exact execCmpX2_cfg h
  | cmpB5 => exact execCmpB5_cfg h
  | cmpT => exact execCmpT_cfg h
  | compensate => exact execCompensate_cfg h
  | jmp n => exact execJmp_cfg h
  | halt => exact execHalt_cfg h

/-- Settles O4, by the cases of a step: a host reset, a halted block, an illegal fetch, and an op (`exec_cfg`). -/
theorem configurationNeverWritten : Obligations.ConfigurationNeverWritten := by
  intro s t h
  rcases step_cases s with
    ⟨-, hs⟩ | ⟨-, -, hs⟩ | ⟨-, -, -, hs⟩ | ⟨-, -, -, ⟨info, -, hs⟩ | ⟨i, -, hs⟩⟩ <;> rw [hs] at h
  · cases h
  · exact hostReset_cfg h
  · cases h; exact atBoundary_cfg s
  · cases h; simp
  · exact (exec_cfg h).trans (atBoundary_cfg s)

end Sys2Proof.Machine
end

section
/-! Every step keeps the state consistent (10_state.md R20 to R38, R171, R221, R285). `State.Inv` is taken apart: the clauses
about registers, one predicate for each group of them, and those about where the sequencer stands. A step then ends at rest,
leaves its op in progress, or waits for an answer, and each of these ends has one lemma. -/

namespace Sys2Proof.Machine

variable {s t : State} {i : Instr}

/-! ### The clauses of `State.Inv`, by the registers they speak of -/

/-- The calibration's part of `State.Inv` (R27 to R30). -/
structure CalibConsistent (stage : CalStage) (written : BitVec 4) (idx : BitVec 3) (cal : Option CalRec)
    (valid : Bool) : Prop where
  valid_iff : valid = true ↔ cal.isSome = true
  staged_has_value : ∀ slot, written &&& stageBit slot ≠ 0#4 → (stage.get slot).isSome = true
  idx_range : idx ≤ 4#3

/-- The identity's part of `State.Inv` (R25, R26; log 14). -/
structure IdentityConsistent (mode : IdReadFailMode) (idMatch : Bool) (devId : Option Byte) : Prop where
  only_expected : idMatch = true → devId = some expectedId
  iff_fatal : mode = .fatal → (idMatch = true ↔ devId = some expectedId)

/-- The measurement's part of `State.Inv` (R31 to R33, R163 to R170). -/
structure MeasConsistent (m : MeasState) (raw : Option Half) (rawValid wait signal : Bool) : Prop where
  valid_complete : rawValid = true → m = .complete ∧ raw.isSome = true
  lsb_has_raw : m = .readLsb → raw.isSome = true
  wait_iff : wait = true ↔ m = .converting
  signal_has_wait : signal = true → wait = true

/-- The clauses of `State.Inv` that do not depend on where the sequencer stands: `upc`, `busy`, `run_state` and the request
outstanding are free. -/
def State.RegistersConsistent (s : State) : Prop :=
  CalibConsistent s.calStage s.stageWritten s.calibIdx s.calRec s.calibValid ∧
  IdentityConsistent s.cfg.idReadFailMode s.idMatch s.devId ∧
  MeasConsistent s.measState s.raw s.rawValid s.timerWait s.timerSignal ∧
  s.scanAddr ≤ 128#8 ∧
  (s.cause = .none ↔ s.faultInfo = none)

/-- Where an op may end or fault: no conversion awaited, no request outstanding. -/
def State.Settled (s : State) : Prop :=
  s.RegistersConsistent ∧ s.measState ≠ .converting ∧ s.busReq = none

theorem State.Settled.registers (h : s.Settled) : s.RegistersConsistent := h.1

theorem State.Settled.not_converting (h : s.Settled) : s.measState ≠ .converting := h.2.1

theorem State.Settled.no_request (h : s.Settled) : s.busReq = none := h.2.2

theorem State.Inv.registers (h : s.Inv) : s.RegistersConsistent :=
  ⟨⟨h.calib_valid_iff, h.staged_has_value, h.calib_idx_range⟩, ⟨h.id_match_only_expected, h.id_match_iff_fatal⟩,
    ⟨h.raw_valid_complete, h.lsb_has_raw, h.wait_iff_converting, h.signal_has_wait⟩, h.scan_range, h.cause_iff_info⟩

/-- `State.Inv` from its two parts. -/
theorem inv_of_registers (hr : s.RegistersConsistent)
    (hconv : s.measState = .converting → s.busy = true ∧ (fetch s = .ok .waitConv ∨ fetch s = .ok .measure))
    (hhalt : s.runState = .halted → s.busy = false ∧ s.busReq = none)
    (hbusy : s.busy = true → ∃ i, fetch s = .ok i ∧ inProgress i s)
    (hreq : ∀ q, s.busReq = some q → ∃ i, fetch s = .ok i ∧ busRequest i s = some q) : s.Inv := by
  obtain ⟨hcal, hid, hmeas, hscan, hfault⟩ := hr
  exact
    { calib_valid_iff := hcal.valid_iff, raw_valid_complete := hmeas.valid_complete, lsb_has_raw := hmeas.lsb_has_raw
      staged_has_value := hcal.staged_has_value, scan_range := hscan, calib_idx_range := hcal.idx_range
      id_match_only_expected := hid.only_expected, id_match_iff_fatal := hid.iff_fatal, cause_iff_info := hfault
      wait_iff_converting := hmeas.wait_iff, signal_has_wait := hmeas.signal_has_wait, converting_in_wait := hconv
      halted_at_rest := hhalt, busy_in_progress := hbusy, outstanding_is_next := hreq }

/-! ### The ends of a step -/

/-- The step ends its op, or the run. -/
theorem State.Settled.inv_of_not_busy (h : s.Settled) (hb : s.busy = false) : s.Inv :=
  inv_of_registers h.registers (fun hm => absurd hm h.not_converting) (fun _ => ⟨hb, h.no_request⟩) (by simp [hb])
    (by simp [h.no_request])

/-- The step leaves its op in progress. -/
theorem inv_of_in_progress (hr : s.RegistersConsistent) (hreq : s.busReq = none) (hrun : s.runState = .running)
    (hb : s.busy = true) (hf : fetch s = .ok i) (hp : inProgress i s)
    (hconv : s.measState = .converting → i = .waitConv ∨ i = .measure) : s.Inv :=
  inv_of_registers hr (fun hm => ⟨hb, by rcases hconv hm with rfl | rfl <;> simp [hf]⟩) (by simp [hrun])
    (fun _ => ⟨i, hf, hp⟩) (by simp [hreq])

theorem State.Settled.done_inv (h : s.Settled) : s.done.Inv :=
  State.Settled.inv_of_not_busy (s := s.done) h rfl

/-! ### What happens to a group of registers -/

theorem CalibConsistent.stage {stage : CalStage} {w : BitVec 4} {idx : BitVec 3} {cal : Option CalRec} {valid : Bool}
    (h : CalibConsistent stage w idx cal valid) (slot : Slot) (v : Half) :
    CalibConsistent (stage.set slot v) (stageMark w slot) idx cal valid where
  valid_iff := h.valid_iff
  idx_range := h.idx_range
  staged_has_value other hw := by
    rw [CalStage.get_set]
    rcases stageMark_other hw with rfl | hw
    · simp
    · split
      · rfl
      · exact h.staged_has_value other hw

/-- Unmarking every slot; the index may take any value in its range. -/
theorem CalibConsistent.unmark {stage : CalStage} {w : BitVec 4} {idx idx' : BitVec 3} {cal : Option CalRec}
    {valid : Bool} (h : CalibConsistent stage w idx cal valid) (hidx : idx' ≤ 4#3) :
    CalibConsistent stage 0#4 idx' cal valid :=
  ⟨h.valid_iff, by simp, hidx⟩

theorem CalibConsistent.commit {stage : CalStage} {w : BitVec 4} {idx : BitVec 3} {cal : Option CalRec} {valid : Bool}
    (h : CalibConsistent stage w idx cal valid) (new : CalRec) : CalibConsistent stage 0#4 idx (some new) true :=
  ⟨by simp, by simp, h.idx_range⟩

theorem IdentityConsistent.identified (mode : IdReadFailMode) (b : Byte) :
    IdentityConsistent mode (idMatches b) (some b) := by
  constructor <;> simp [idMatches]

section Meas

variable {m m' : MeasState} {raw : Option Half} {v wait signal : Bool}

theorem MeasConsistent.rawValid_false (h : MeasConsistent m raw v wait signal) (hm : m ≠ .complete) : v = false :=
  Bool.eq_false_iff.mpr fun hv => hm (h.valid_complete hv).1

theorem MeasConsistent.wait_false (h : MeasConsistent m raw v wait signal) (hm : m ≠ .converting) : wait = false :=
  Bool.eq_false_iff.mpr fun hw => hm (h.wait_iff.mp hw)

/-- A transition outside CONVERTING leaves the timer as it is. -/
theorem MeasConsistent.move {raw' : Option Half} {v' : Bool} (h : MeasConsistent m raw v wait signal)
    (hm : m ≠ .converting) (hm' : m' ≠ .converting) (hv : v' = true → m' = .complete ∧ raw'.isSome = true)
    (hl : m' = .readLsb → raw'.isSome = true) : MeasConsistent m' raw' v' wait signal :=
  ⟨hv, hl, by simp [h.wait_false hm, hm'], h.signal_has_wait⟩

theorem MeasConsistent.startTimer (h : MeasConsistent m raw v wait signal) (hm : m ≠ .complete) :
    MeasConsistent .converting raw v true false := by
  rw [h.rawValid_false hm]
  constructor <;> simp

theorem MeasConsistent.takeElapsed (h : MeasConsistent m raw v wait signal) (hm : m = .converting) :
    MeasConsistent .readMsb raw v false false := by
  rw [h.rawValid_false (by simp [hm])]
  constructor <;> simp

end Meas

/-! ### Faults -/

/-- The opcodes of the ops whose failed transaction is a fault (R256): READ_ID, READ_REG16, READ_CALIB, TRIGGER, READ_MSB,
READ_LSB and MEASURE. -/
def busFaultOpcodes : List Byte := [0x04#8, 0x05#8, 0x07#8, 0x08#8, 0x0A#8, 0x0B#8, 0x0C#8]

theorem failClass_busCause {op : Byte} (hop : op ∈ busFaultOpcodes) (k : ErrKind) :
    failClass op (busCause k) ≠ .absorbed := by
  revert op
  cases k <;> decide

/-- A fault that is not absorbed ends its op and keeps the state consistent. -/
theorem State.Settled.raiseFault_inv (h : s.Settled) {c : Cause} {info : FaultInfo} (hc : c ≠ .none)
    (hclass : failClass info.op c ≠ .absorbed) : (raiseFault c info s).Inv := by
  obtain ⟨⟨hcal, hid, hmeas, hscan, -⟩, hm, hreq⟩ := h
  have hfault : c = .none ↔ some info = none := by simp [hc]
  rcases raiseFault_cases c info s with ⟨ha, -⟩ | he | ⟨-, -, he⟩
  · exact absurd ha hclass
  · rw [he]
    exact State.Settled.inv_of_not_busy ⟨⟨hcal, hid, hmeas, hscan, hfault⟩, hm, hreq⟩ rfl
  · rw [he]
    rcases failCycle_cases c (s.saveFault c info) with he | he <;> rw [he]
    · exact State.Settled.inv_of_not_busy ⟨⟨hcal, hid, hmeas, hscan, hfault⟩, hm, hreq⟩ rfl
    · have hidle : MeasConsistent .idle s.raw false s.timerWait s.timerSignal :=
        hmeas.move hm (by simp) (by simp) (by simp)
      exact State.Settled.inv_of_not_busy ⟨⟨hcal, hid, hidle, hscan, hfault⟩, by simp, hreq⟩ rfl

theorem State.Settled.seqFault_inv (h : s.Settled) (op : Byte) : (seqFault op s).Inv :=
  h.raiseFault_inv (by simp) (by simp)

theorem State.Settled.divFault_inv (h : s.Settled) (op : Byte) : (divFault op s).Inv :=
  h.raiseFault_inv (by simp) (by simp)

theorem State.Settled.busFault_inv (h : s.Settled) {op : Byte} (ptr : Byte) (k : ErrKind)
    (hop : op ∈ busFaultOpcodes) : (busFault op ptr k s).Inv :=
  h.raiseFault_inv (busCause_ne_none k) (failClass_busCause hop k)

/-! ### The state an op starts from -/

/-- A consistent, running block with `i` at `upc`: what a step hands to `exec` (R220). -/
structure State.ReadyFor (s : State) (i : Instr) : Prop where
  consistent : s.Inv
  running : s.runState = .running
  fetched : fetch s = .ok i

theorem State.ReadyFor.in_progress (h : s.ReadyFor i) (hb : s.busy = true) : inProgress i s := by
  obtain ⟨j, hj, hp⟩ := h.consistent.busy_in_progress hb
  cases h.fetched.symm.trans hj
  exact hp

theorem State.ReadyFor.not_converting (h : s.ReadyFor i) (hw : i ≠ .waitConv) (hm : i ≠ .measure) :
    s.measState ≠ .converting := by
  intro hc
  rcases (h.consistent.converting_in_wait hc).2 with hf | hf <;> cases h.fetched.symm.trans hf <;> contradiction

theorem State.ReadyFor.not_converting_of_not_busy (h : s.ReadyFor i) (hb : s.busy = false) :
    s.measState ≠ .converting :=
  fun hc => Bool.false_ne_true (hb.symm.trans (h.consistent.converting_in_wait hc).1)

theorem State.ReadyFor.no_request (h : s.ReadyFor i) (hq : busRequest i s = none) : s.busReq = none := by
  rw [Option.eq_none_iff_forall_ne_some]
  intro q hs
  obtain ⟨j, hj, hjq⟩ := h.consistent.outstanding_is_next q hs
  cases h.fetched.symm.trans hj
  simp [hq] at hjq

/-- An op that waits for nothing in this step may end in it. -/
theorem State.ReadyFor.settled (h : s.ReadyFor i) (hm : s.measState ≠ .converting) (hq : busRequest i s = none) :
    s.Settled :=
  ⟨h.consistent.registers, hm, h.no_request hq⟩

/-- So may one whose transaction has its response. -/
theorem State.ReadyFor.answered_settled (h : s.ReadyFor i) (hm : s.measState ≠ .converting) (req : BusReq)
    (resp : BusResp) (rest : List BusTurn) : (s.answered req resp rest).Settled :=
  ⟨h.consistent.registers, hm, rfl⟩

/-! ### The ports -/

/-- Whether an op is in progress does not depend on the bus port, the timer's signal and the ticks (R221). -/
theorem inProgress_ports (i : Instr) (s : State) (req : Option BusReq) (bus : List BusTurn) (signal : Bool)
    (ticks : List EnvTick) :
    inProgress i { s with busReq := req, busIn := bus, timerSignal := signal, ticks := ticks } = inProgress i s := by
  cases i <;> rfl

/-- Nor does the request of the op's next step (R78). -/
theorem busRequest_ports (i : Instr) (s : State) (req : Option BusReq) (bus : List BusTurn) (signal : Bool)
    (ticks : List EnvTick) :
    busRequest i { s with busReq := req, busIn := bus, timerSignal := signal, ticks := ticks } = busRequest i s := by
  cases i <;> rfl

/-- A boundary that signals only where a wait is outstanding keeps the state consistent (R170). -/
theorem State.Inv.boundary (h : s.Inv) {signal : Bool} (hsig : signal = true → s.timerWait = true)
    (ticks : List EnvTick) : { s with ticks := ticks, timerSignal := signal }.Inv := by
  obtain ⟨hcal, hid, hmeas, hregs⟩ := h.registers
  refine inv_of_registers ⟨hcal, hid, ⟨hmeas.valid_complete, hmeas.lsb_has_raw, hmeas.wait_iff, hsig⟩, hregs⟩
    h.converting_in_wait h.halted_at_rest (fun hb => ?_) (fun q hq => ?_)
  · obtain ⟨i, hf, hp⟩ := h.busy_in_progress hb
    exact ⟨i, hf, (inProgress_ports i s s.busReq s.busIn signal ticks).mpr hp⟩
  · obtain ⟨i, hf, hi⟩ := h.outstanding_is_next q hq
    exact ⟨i, hf, (busRequest_ports i s s.busReq s.busIn signal ticks).trans hi⟩

theorem atBoundary_timerSignal (s : State) :
    (atBoundary s).timerSignal =
      if s.ticks.head? = some .elapsed then s.timerSignal || s.timerWait else s.timerSignal := by
  unfold atBoundary
  rcases s.ticks with _ | ⟨_ | _ | _, rest⟩ <;> simp

theorem State.Inv.atBoundary (h : s.Inv) : (atBoundary s).Inv := by
  rw [atBoundary_eq, atBoundary_timerSignal]
  refine h.boundary ?_ _
  split
  · exact fun hs => (Bool.or_eq_true_iff.mp hs).elim h.signal_has_wait id
  · exact h.signal_has_wait

/-! ### A transaction -/

section Transaction

variable {req : BusReq}

/-- A waiting step changes the bus port only, and the request outstanding is the op's own. -/
theorem State.ReadyFor.awaiting_inv (h : s.ReadyFor i) (hq : busRequest i s = some req) (rest : List BusTurn) :
    (s.awaiting req rest).Inv := by
  have hp := inProgress_ports i s (some req) rest s.timerSignal s.ticks
  have hreq := busRequest_ports i s (some req) rest s.timerSignal s.ticks
  refine inv_of_registers h.consistent.registers h.consistent.converting_in_wait (fun hh => ?_)
    (fun hb => ⟨i, h.fetched, hp.mpr (h.in_progress hb)⟩) (fun q hs => ⟨i, h.fetched, hreq.trans (hq.trans hs)⟩)
  exact absurd (h.running.symm.trans hh) (by simp)

/-- A transaction keeps the state consistent when what follows either answer does. -/
theorem State.ReadyFor.transaction_inv {onOk : Byte → Byte → State → State} {onErr : ErrKind → State → State}
    (h : s.ReadyFor i) (hq : busRequest i s = some req)
    (hok : ∀ b0 b1 resp rest, (onOk b0 b1 (s.answered req resp rest)).Inv)
    (herr : ∀ k resp rest, (onErr k (s.answered req resp rest)).Inv)
    (hnext : (∃ b0 b1 u, Answered req s (.inl (b0, b1)) u ∧ t = onOk b0 b1 u) ∨
      (∃ k u, Answered req s (.inr k) u ∧ t = onErr k u) ∨ Awaiting req s t) : t.Inv := by
  rcases hnext with ⟨b0, b1, u, ⟨-⟩, rfl⟩ | ⟨k, u, ⟨-⟩, rfl⟩ | ⟨-⟩ | ⟨-⟩
  · exact hok _ _ _ _
  · exact herr _ _ _
  · exact h.awaiting_inv hq _
  · exact h.awaiting_inv hq _

end Transaction

/-! ### REPORT, the scanner and the sequencer -/

theorem execReport_inv {tag : ReportTag} (hs : s.ReadyFor (.report tag)) (h : execReport tag s = .next t) : t.Inv := by
  have hset : s.Settled := hs.settled (hs.not_converting (by simp) (by simp)) rfl
  rcases execReport_next h with ⟨r, -, rfl⟩ | ⟨-, rfl⟩
  · exact State.Settled.done_inv (s := s.emit r) hset
  · exact hset.seqFault_inv _

/-- What a probe writes (R122, R124). -/
theorem probed_eq (s : State) (a : BusAddr) (ack : Bool) :
    s.probed a ack = { s with probeAck := ack, trace := (s.probed a ack).trace } := by
  cases ack <;> rfl

/-- SCAN's step at the last address ends the op (R124). -/
theorem scanned_last (s : State) (ack : Bool) :
    s.scanned scanLast ack = { s.probed 127#7 ack with busy := true, scanAddr := 128#8 }.done := rfl

/-- SCAN's step at an earlier address leaves the op in progress (R124). -/
theorem scanned_of_ne_last {a : BitVec 8} (ha : a ≠ scanLast) (s : State) (ack : Bool) :
    s.scanned a ack = { s.probed (a.setWidth 7) ack with busy := true, scanAddr := a + 1#8 } :=
  if_neg ha

theorem State.Settled.probed (h : s.Settled) (a : BusAddr) (ack : Bool) : (s.probed a ack).Settled := by
  cases ack <;> exact h

theorem execProbe_inv {a : BusAddr} (hs : s.ReadyFor (.probe a)) (h : execProbe a s = .next t) : t.Inv := by
  have hset := hs.answered_settled (hs.not_converting (by simp) (by simp)) (probeReq s.cfg a)
  refine hs.transaction_inv rfl ?_ ?_ (execProbe_next h)
  · exact fun _ _ resp rest => ((hset resp rest).probed a true).done_inv
  · exact fun _ resp rest => ((hset resp rest).probed a false).done_inv

theorem State.Settled.setScanAddr (h : s.Settled) {a : BitVec 8} (ha : a ≤ 128#8) (busy : Bool) :
    { s with busy := busy, scanAddr := a }.Settled := by
  obtain ⟨⟨hcal, hid, hmeas, -, hfault⟩, hm, hreq⟩ := h
  exact ⟨⟨hcal, hid, hmeas, ha, hfault⟩, hm, hreq⟩

theorem State.ReadyFor.scanTarget_le (hs : s.ReadyFor .scan) : s.scanTarget ≤ 127#8 := by
  unfold State.scanTarget
  split
  · exact hs.in_progress ‹_›
  · decide

theorem State.Settled.scanned_inv (h : s.Settled) (hrun : s.runState = .running) (hf : fetch s = .ok .scan)
    {a : BitVec 8} (ha : a ≤ 127#8) (ack : Bool) : (s.scanned a ack).Inv := by
  by_cases hlast : a = scanLast
  · subst hlast
    rw [scanned_last]
    exact ((h.probed _ ack).setScanAddr (by decide) true).done_inv
  · have hnext : a + 1#8 ≤ 127#8 := by
      unfold scanLast at hlast
      bv_omega
    have hset := (h.probed (a.setWidth 7) ack).setScanAddr (BitVec.le_trans hnext (by decide)) true
    rw [scanned_of_ne_last hlast]
    rw [probed_eq] at hset ⊢
    exact inv_of_in_progress hset.registers hset.no_request hrun rfl hf hnext (fun hc => absurd hc h.not_converting)

theorem execScan_inv (hs : s.ReadyFor .scan) (h : execScan s = .next t) : t.Inv := by
  have hset := hs.answered_settled (hs.not_converting (by simp) (by simp)) (probeReq s.cfg (s.scanTarget.setWidth 7))
  refine hs.transaction_inv rfl ?_ ?_ (execScan_next h)
  · exact fun _ _ resp rest => (hset resp rest).scanned_inv hs.running hs.fetched hs.scanTarget_le true
  · exact fun _ resp rest => (hset resp rest).scanned_inv hs.running hs.fetched hs.scanTarget_le false

theorem execJmp_inv {n : Byte} (hs : s.ReadyFor (.jmp n)) (h : execJmp n s = .next t) : t.Inv := by
  have hset : s.Settled := hs.settled (hs.not_converting (by simp) (by simp)) rfl
  cases h
  exact State.Settled.inv_of_not_busy hset rfl

theorem execHalt_inv (hs : s.ReadyFor .halt) (h : execHalt s = .next t) : t.Inv := by
  have hset : s.Settled := hs.settled (hs.not_converting (by simp) (by simp)) rfl
  cases h
  exact State.Settled.inv_of_not_busy hset rfl

/-! ### The calibration ops -/

/-- What a byte of the identification register writes (R141). -/
theorem identified_eq (s : State) (b : Byte) :
    s.identified b = { s with devId := some b, idMatch := idMatches b, trace := (s.identified b).trace } := by
  unfold State.identified
  split <;> rfl

theorem State.Settled.identified (h : s.Settled) (b : Byte) : (s.identified b).Settled := by
  obtain ⟨⟨hcal, -, hmeas, hscan, hfault⟩, hm, hreq⟩ := h
  rw [identified_eq]
  exact ⟨⟨hcal, .identified _ b, hmeas, hscan, hfault⟩, hm, hreq⟩

/-- A failed identity read is a fault, or clears `id_match` and ends the op (R141, R143). -/
theorem State.Settled.idReadFailed_inv (h : s.Settled) (k : ErrKind) : (s.idReadFailed k).Inv := by
  cases hmode : s.cfg.idReadFailMode with
  | fatal =>
    simp only [State.idReadFailed, hmode]
    exact h.busFault_inv _ k (by decide)
  | reportUndetected =>
    obtain ⟨⟨hcal, -, hmeas, hscan, hfault⟩, hm, hreq⟩ := h
    have hid : IdentityConsistent s.cfg.idReadFailMode false s.devId := by constructor <;> simp [hmode]
    simp only [State.idReadFailed, hmode]
    exact State.Settled.done_inv ⟨⟨hcal, hid, hmeas, hscan, hfault⟩, hm, hreq⟩

theorem execReadId_inv (hs : s.ReadyFor .readId) (h : execReadId s = .next t) : t.Inv := by
  have hset := hs.answered_settled (hs.not_converting (by simp) (by simp)) (readReq regId 1)
  refine hs.transaction_inv rfl ?_ ?_ (execReadId_next h)
  · exact fun b _ resp rest => ((hset resp rest).identified b).done_inv
  · exact fun k resp rest => (hset resp rest).idReadFailed_inv k

theorem State.Settled.stage (h : s.Settled) (slot : Slot) (b0 b1 : Byte) : (s.stage slot b0 b1).Settled := by
  obtain ⟨⟨hcal, hregs⟩, hm, hreq⟩ := h
  exact ⟨⟨hcal.stage slot _, hregs⟩, hm, hreq⟩

theorem State.Settled.commit (h : s.Settled) (cal : CalRec) : (s.commit cal).Settled := by
  obtain ⟨⟨hcal, hregs⟩, hm, hreq⟩ := h
  exact ⟨⟨hcal.commit cal, hregs⟩, hm, hreq⟩

theorem execReadReg16_inv {p : Byte} {slot : Slot} (hs : s.ReadyFor (.readReg16 p slot))
    (h : execReadReg16 p slot s = .next t) : t.Inv := by
  have hset := hs.answered_settled (hs.not_converting (by simp) (by simp)) (readReq p 2)
  refine hs.transaction_inv rfl ?_ ?_ (execReadReg16_next h)
  · exact fun b0 b1 resp rest => ((hset resp rest).stage slot b0 b1).done_inv
  · exact fun k resp rest => (hset resp rest).busFault_inv p k (by decide)

theorem execCommitCalib_inv (hs : s.ReadyFor .commitCalib) (h : execCommitCalib s = .next t) : t.Inv := by
  have hset : s.Settled := hs.settled (hs.not_converting (by simp) (by simp)) rfl
  rcases execCommitCalib_next h with ⟨-, -, cal, -, rfl⟩ | ⟨-, rfl⟩
  · exact (hset.commit cal).done_inv
  · exact hset.seqFault_inv _

/-- `stage_written` as READ_CALIB's step finds it: in its first step cleared (R148). -/
def State.calibWritten (s : State) : BitVec 4 :=
  if s.busy then s.stageWritten else 0b0000#4

/-- READ_CALIB's initialisation, in its first step and in a later one (R148). -/
theorem enterCalib_eq (s : State) :
    s.enterCalib = { s with calibIdx := s.calibStep, stageWritten := s.calibWritten, busy := true } := by
  unfold State.enterCalib State.calibStep State.calibWritten
  cases s with | mk _ _ busy => cases busy <;> rfl

/-- READ_CALIB reads slot `i` at progress `i`, and after it is at progress `i + 1` (R148). -/
theorem stagedBelow_succ {i : BitVec 3} {slot : Slot} (h : slotOfIdx i = some slot) :
    stageMark (stagedBelow i) slot = stagedBelow (i + 1#3) ∧ i ≤ 4#3 ∧ i + 1#3 ≤ 4#3 := by
  revert i slot
  decide

/-- READ_CALIB has staged the slots below its progress, and there is no record yet (R148). -/
theorem State.ReadyFor.calib_staged (hs : s.ReadyFor .readCalib) (hguard : s.busy = true ∨ s.calibValid = false) :
    s.calibValid = false ∧ s.calibWritten = stagedBelow s.calibStep := by
  unfold State.calibWritten State.calibStep
  cases hb : s.busy with
  | true => exact hs.in_progress hb
  | false => exact ⟨hguard.resolve_left (by simp [hb]), rfl⟩

theorem State.RegistersConsistent.enterCalib (h : s.RegistersConsistent) (hstep : s.calibStep ≤ 4#3) :
    s.enterCalib.RegistersConsistent := by
  obtain ⟨hcal, hregs⟩ := h
  rw [enterCalib_eq]
  refine ⟨?_, hregs⟩
  unfold State.calibWritten
  cases s.busy with
  | true => exact ⟨hcal.valid_iff, hcal.staged_has_value, hstep⟩
  | false => exact hcal.unmark hstep

/-- One constant has been read, and READ_CALIB is in progress (R148). -/
theorem State.Settled.calibRead_inv (h : s.Settled) (hrun : s.runState = .running) (hf : fetch s = .ok .readCalib)
    (hstaged : s.calibValid = false ∧ s.calibWritten = stagedBelow s.calibStep) {slot : Slot}
    (hslot : slotOfIdx s.calibStep = some slot) (b0 b1 : Byte) : (s.calibRead slot s.calibStep b0 b1).Inv := by
  obtain ⟨hbelow, hle, hle'⟩ := stagedBelow_succ hslot
  obtain ⟨hcal, hregs⟩ := h.registers.enterCalib hle
  have hcal' := hcal.stage slot (be16 b0 b1)
  unfold State.calibRead
  rw [enterCalib_eq] at hcal' hregs ⊢
  refine inv_of_in_progress ⟨⟨hcal'.valid_iff, hcal'.staged_has_value, hle'⟩, hregs⟩ h.no_request hrun rfl hf
    ⟨hstaged.1, ?_⟩ (fun hc => absurd hc h.not_converting)
  calc stageMark s.calibWritten slot
      = stageMark (stagedBelow s.calibStep) slot := by rw [hstaged.2]
    _ = stagedBelow (s.calibStep + 1#3) := hbelow

theorem State.Settled.enterCalib (h : s.Settled) (hstep : s.calibStep ≤ 4#3) : s.enterCalib.Settled := by
  refine ⟨h.registers.enterCalib hstep, ?_, ?_⟩ <;> rw [enterCalib_eq]
  · exact h.not_converting
  · exact h.no_request

theorem busRequest_readCalib (hguard : s.busy = true ∨ s.calibValid = false) :
    busRequest .readCalib s = (slotOfIdx s.calibStep).map fun slot => readReq (slotPtr slot) 2 := by
  rcases hguard with h | h <;> simp [busRequest, h]

theorem execReadCalib_inv (hs : s.ReadyFor .readCalib) (h : execReadCalib s = .next t) : t.Inv := by
  have hm : s.measState ≠ .converting := hs.not_converting (by simp) (by simp)
  rcases execReadCalib_next h with ⟨hb, hv, rfl⟩ | ⟨hguard, ⟨slot, hslot, hnext⟩ | ⟨hnone, hend⟩⟩
  · exact (hs.settled hm (by simp [busRequest, hb, hv])).seqFault_inv _
  · have hset := hs.answered_settled hm (readReq (slotPtr slot) 2)
    obtain ⟨-, hle, -⟩ := stagedBelow_succ hslot
    refine hs.transaction_inv (by simp [busRequest_readCalib hguard, hslot]) ?_ ?_ hnext
    · exact fun b0 b1 resp rest =>
        (hset resp rest).calibRead_inv hs.running hs.fetched (hs.calib_staged hguard) hslot b0 b1
    · exact fun k resp rest => ((hset resp rest).enterCalib hle).busFault_inv _ k (by decide)
  · have hset : s.Settled := hs.settled hm (by simp [busRequest_readCalib hguard, hnone])
    rcases hend with ⟨cal, -, rfl⟩ | ⟨-, rfl⟩
    · exact State.Settled.done_inv (s := (s.commit cal).log _) (hset.commit cal)
    · exact hset.seqFault_inv _

/-! ### The measurement -/

/-- The measurement moves outside CONVERTING. -/
theorem State.Settled.move {m : MeasState} {raw : Option Half} {v : Bool} (h : s.Settled) (hm : m ≠ .converting)
    (hv : v = true → m = .complete ∧ raw.isSome = true) (hl : m = .readLsb → raw.isSome = true) :
    { s with measState := m, raw := raw, rawValid := v }.Settled := by
  obtain ⟨⟨hcal, hid, hmeas, hregs⟩, hs, hreq⟩ := h
  exact ⟨⟨hcal, hid, hmeas.move hs hm hv hl, hregs⟩, hm, hreq⟩

/-- A phase of the measurement has brought `s` to `u`, at `m`; what is left of the step is how it ends. -/
structure State.MovedTo (s : State) (i : Instr) (m : MeasState) (u : State) : Prop where
  settled : u.Settled
  at_state : u.measState = m
  same_busy : u.busy = s.busy
  running : u.runState = .running
  fetched : fetch u = .ok i

theorem State.MovedTo.done_inv {m : MeasState} {u : State} (h : s.MovedTo i m u) : u.done.Inv :=
  h.settled.done_inv

/-- MEASURE stays in progress after a phase that does not complete the cycle (R172). -/
theorem State.MovedTo.measure_inv {m : MeasState} {u : State} (h : s.MovedTo .measure m u)
    (hm : m.mayTrigger = false) (hb : u.busy = true) : u.Inv := by
  refine inv_of_in_progress h.settled.registers h.settled.no_request h.running hb h.fetched ?_ (fun _ => .inr rfl)
  rw [inProgress, h.at_state]
  constructor <;> (rintro rfl; simp [MeasState.mayTrigger] at hm)

section Phases

variable {op : Byte} {fin : State → State}

/-- The trigger write, whatever ends its step. -/
theorem State.ReadyFor.triggerPhase_inv (hs : s.ReadyFor i) (hm : s.measState.mayTrigger = true)
    (hq : busRequest i s = some triggerReq) (hop : op ∈ busFaultOpcodes)
    (hfin : ∀ u, s.MovedTo i .triggered u → (fin u).Inv)
    (h : triggerPhase op fin s = .next t) : t.Inv := by
  have hc : s.measState ≠ .converting := by intro hc; simp [hc, MeasState.mayTrigger] at hm
  have hl : s.measState ≠ .readLsb := by intro hl; simp [hl, MeasState.mayTrigger] at hm
  have hset := hs.answered_settled hc triggerReq
  refine hs.transaction_inv hq ?_ ?_ (triggerPhase_next h)
  · exact fun _ _ resp rest =>
      hfin _ ⟨(hset resp rest).move (by simp) (by simp) (by simp), rfl, rfl, hs.running, hs.fetched⟩
  · exact fun k resp rest => ((hset resp rest).move (v := false) hc (by simp) (absurd · hl)).busFault_inv _ k hop

/-- The wait, whatever ends its step. -/
theorem State.ReadyFor.awaitPhase_inv (hs : s.ReadyFor i) (hm : s.measState = .converting)
    (hq : busRequest i s = none) (hfin : ∀ u, s.MovedTo i .readMsb u → (fin u).Inv)
    (h : awaitPhase fin s = .next t) : t.Inv := by
  rcases awaitPhase_next h with ⟨-, rfl⟩ | ⟨-, rfl⟩
  · obtain ⟨hcal, hid, hmeas, hregs⟩ := hs.consistent.registers
    have hset : State.Settled { s.takeElapsed with measState := .readMsb } :=
      ⟨⟨hcal, hid, hmeas.takeElapsed hm, hregs⟩, by simp, hs.no_request hq⟩
    exact hfin _ ⟨hset, rfl, rfl, hs.running, hs.fetched⟩
  · exact hs.consistent

/-- The read of the high byte, whatever ends its step. -/
theorem State.ReadyFor.msbPhase_inv (hs : s.ReadyFor i) (hm : s.measState = .readMsb)
    (hq : busRequest i s = some (readReq regMsb 1)) (hop : op ∈ busFaultOpcodes)
    (hfin : ∀ u, s.MovedTo i .readLsb u → (fin u).Inv) (h : msbPhase op fin s = .next t) : t.Inv := by
  have hset := hs.answered_settled (by simp [hm]) (readReq regMsb 1)
  obtain ⟨-, -, hmeas, -⟩ := hs.consistent.registers
  have hv : s.rawValid = false := hmeas.rawValid_false (by simp [hm])
  refine hs.transaction_inv hq ?_ ?_ (msbPhase_next h)
  · exact fun _ _ resp rest =>
      hfin _ ⟨(hset resp rest).move (by simp) (by simp [hv]) (by simp), rfl, rfl, hs.running, hs.fetched⟩
  · exact fun k resp rest => (hset resp rest).busFault_inv _ k hop

/-- The read of the low byte, whatever ends its step. -/
theorem State.ReadyFor.lsbPhase_inv (hs : s.ReadyFor i) (hm : s.measState = .readLsb)
    (hq : s.raw.isSome = true → busRequest i s = some (readReq regLsb 1)) (hop : op ∈ busFaultOpcodes)
    (hfin : ∀ u, s.MovedTo i .complete u → (fin u).Inv) (h : lsbPhase op fin s = .next t) : t.Inv := by
  have hraw : s.raw.isSome = true := hs.consistent.lsb_has_raw hm
  have hset := hs.answered_settled (by simp [hm]) (readReq regLsb 1)
  rcases lsbPhase_next h with ⟨hnone, -⟩ | ⟨raw, -, hnext⟩
  · simp [hnone] at hraw
  · refine hs.transaction_inv (hq hraw) ?_ ?_ hnext
    · exact fun _ _ resp rest =>
        hfin _ ⟨(hset resp rest).move (by simp) (by simp) (by simp), rfl, rfl, hs.running, hs.fetched⟩
    · exact fun k resp rest => (hset resp rest).busFault_inv _ k hop

end Phases

/-- The wait begins, and the op is in progress (R163, R172). -/
theorem State.ReadyFor.startPhase_inv (hs : s.ReadyFor i) (hm : s.measState = .triggered)
    (hi : i = .waitConv ∨ i = .measure) (hq : busRequest i s = none) : { startPhase s with busy := true }.Inv := by
  obtain ⟨hcal, hid, hmeas, hregs⟩ := hs.consistent.registers
  refine inv_of_in_progress ⟨hcal, hid, hmeas.startTimer (by simp [hm]), hregs⟩ (hs.no_request hq) hs.running rfl hs.fetched
    ?_ (fun _ => hi)
  rcases hi with rfl | rfl
  · exact rfl
  · exact ⟨by simp [startPhase], by simp [startPhase]⟩

theorem execTrigger_inv (hs : s.ReadyFor .trigger) (h : execTrigger s = .next t) : t.Inv := by
  rcases execTrigger_next h with ⟨hm, hp⟩ | ⟨hm, rfl⟩
  · exact hs.triggerPhase_inv hm (if_pos hm) (by decide) (fun _ hu => hu.done_inv) hp
  · exact (hs.settled (hs.not_converting (by simp) (by simp)) (by simp [busRequest, hm])).seqFault_inv _

theorem execWaitConv_inv (hs : s.ReadyFor .waitConv) (h : execWaitConv s = .next t) : t.Inv := by
  rcases execWaitConv_next h with ⟨hb, hp⟩ | ⟨-, hm, rfl⟩ | ⟨hb, -, rfl⟩
  · exact hs.awaitPhase_inv (hs.in_progress hb) rfl (fun _ hu => hu.done_inv) hp
  · exact hs.startPhase_inv hm (.inl rfl) rfl
  · exact (hs.settled (hs.not_converting_of_not_busy hb) rfl).seqFault_inv _

theorem execReadMsb_inv (hs : s.ReadyFor .readMsb) (h : execReadMsb s = .next t) : t.Inv := by
  rcases execReadMsb_next h with ⟨hm, hp⟩ | ⟨hm, rfl⟩
  · exact hs.msbPhase_inv hm (if_pos hm) (by decide) (fun _ hu => hu.done_inv) hp
  · exact (hs.settled (hs.not_converting (by simp) (by simp)) (if_neg hm)).seqFault_inv _

theorem execReadLsb_inv (hs : s.ReadyFor .readLsb) (h : execReadLsb s = .next t) : t.Inv := by
  rcases execReadLsb_next h with ⟨hm, hp⟩ | ⟨hm, rfl⟩
  · exact hs.lsbPhase_inv hm (fun hraw => if_pos ⟨hm, hraw⟩) (by decide) (fun _ hu => hu.done_inv) hp
  · exact (hs.settled (hs.not_converting (by simp) (by simp)) (if_neg fun hc => hm hc.1)).seqFault_inv _

theorem execMeasure_inv (hs : s.ReadyFor .measure) (h : execMeasure s = .next t) : t.Inv := by
  rcases execMeasure_next h with
    ⟨hb, hm, hp⟩ | ⟨hb, hm, rfl⟩ | ⟨hb, ⟨hm, rfl⟩ | ⟨hm, hp⟩ | ⟨hm, hp⟩ | ⟨hm, hp⟩ | ⟨-, rfl⟩⟩
  · refine hs.triggerPhase_inv hm (by simp [busRequest, hb, hm]) (by decide) (fun u hu => ?_) hp
    exact State.MovedTo.measure_inv (s := u.beginMeasure) (u := u.beginMeasure)
      ⟨hu.settled, hu.at_state, rfl, hu.running, hu.fetched⟩ rfl rfl
  · exact (hs.settled (hs.not_converting_of_not_busy hb) (by simp [busRequest, hb, hm])).seqFault_inv _
  · have hkeep : { startPhase s with busy := true } = startPhase s :=
      congrArg (fun b => { startPhase s with busy := b }) hb.symm
    exact hkeep ▸ hs.startPhase_inv hm (.inr rfl) (by simp [busRequest, hb, hm])
  · exact hs.awaitPhase_inv hm (by simp [busRequest, hb, hm])
      (fun _ hu => hu.measure_inv rfl (hu.same_busy.trans hb)) hp
  · exact hs.msbPhase_inv hm (by simp [busRequest, hb, hm, regMsb]) (by decide)
      (fun _ hu => hu.measure_inv rfl (hu.same_busy.trans hb)) hp
  · exact hs.lsbPhase_inv hm (fun hraw => by simp [busRequest, hb, hm, hraw, regLsb]) (by decide)
      (fun _ hu => hu.done_inv) hp
  · exact hs.consistent

/-! ### The compensation -/

theorem execCmpX1_inv (hs : s.ReadyFor .cmpX1) (h : execCmpX1 s = .next t) : t.Inv := by
  have hset : s.Settled := hs.settled (hs.not_converting (by simp) (by simp)) rfl
  rcases execCmpX1_next h with ⟨raw, cal, -, -, rfl⟩ | ⟨-, rfl⟩
  · exact State.Settled.done_inv hset
  · exact hset.seqFault_inv _

theorem execCmpX2_inv (hs : s.ReadyFor .cmpX2) (h : execCmpX2 s = .next t) : t.Inv := by
  have hset : s.Settled := hs.settled (hs.not_converting (by simp) (by simp)) rfl
  rcases execCmpX2_next h with ⟨x1, cal, -, -, ⟨-, rfl⟩ | ⟨-, rfl⟩⟩ | ⟨-, rfl⟩
  · exact hset.divFault_inv _
  · exact State.Settled.done_inv hset
  · exact hset.seqFault_inv _

theorem execCmpB5_inv (hs : s.ReadyFor .cmpB5) (h : execCmpB5 s = .next t) : t.Inv := by
  have hset : s.Settled := hs.settled (hs.not_converting (by simp) (by simp)) rfl
  rcases execCmpB5_next h with ⟨x1, x2, -, -, rfl⟩ | ⟨-, rfl⟩
  · exact State.Settled.done_inv hset
  · exact hset.seqFault_inv _

theorem execCmpT_inv (hs : s.ReadyFor .cmpT) (h : execCmpT s = .next t) : t.Inv := by
  have hset : s.Settled := hs.settled (hs.not_converting (by simp) (by simp)) rfl
  rcases execCmpT_next h with ⟨b5, -, rfl⟩ | ⟨-, rfl⟩
  · exact State.Settled.done_inv hset
  · exact hset.seqFault_inv _

theorem execCompensate_inv (hs : s.ReadyFor .compensate) (h : execCompensate s = .next t) : t.Inv := by
  have hset : s.Settled := hs.settled (hs.not_converting (by simp) (by simp)) rfl
  rcases execCompensate_next h with ⟨raw, cal, -, -, ⟨x1, x2, b5, v, -, rfl⟩ | ⟨x1, -, rfl⟩⟩ | ⟨-, rfl⟩
  · exact State.Settled.done_inv (s := s.compensated x1 x2 b5 v) hset
  · exact hset.divFault_inv _
  · exact hset.seqFault_inv _

/-! ### Every op and every step -/

theorem exec_inv (hs : s.ReadyFor i) (h : exec i s = .next t) : t.Inv := by
  cases i with
  | report tag => exact execReport_inv hs h
  | probe a => exact execProbe_inv hs h
  | scan => exact execScan_inv hs h
  | readId => exact execReadId_inv hs h
  | readReg16 p slot => exact execReadReg16_inv hs h
  | commitCalib => exact execCommitCalib_inv hs h
  | readCalib => exact execReadCalib_inv hs h
  | trigger => exact execTrigger_inv hs h
  | waitConv => exact execWaitConv_inv hs h
  | readMsb => exact execReadMsb_inv hs h
  | readLsb => exact execReadLsb_inv hs h
  | measure => exact execMeasure_inv hs h
  | cmpX1 => exact execCmpX1_inv hs h
  | cmpX2 => exact execCmpX2_inv hs h
  | cmpB5 => exact execCmpB5_inv hs h
  | cmpT => exact execCmpT_inv hs h
  | compensate => exact execCompensate_inv hs h
  | jmp n => exact execJmp_inv hs h
  | halt => exact execHalt_inv hs h

/-- The reset state, whatever the configuration, the trace and the environment (R40, R281). -/
theorem reset_inv (c : Config) (tr : List Event) (bus : List BusTurn) (ticks : List EnvTick) :
    { State.reset with cfg := c, trace := tr, busIn := bus, ticks := ticks }.Inv := by
  have hcal : CalibConsistent CalStage.empty 0#4 0#3 none false := by constructor <;> simp
  have hid : IdentityConsistent c.idReadFailMode false none := by constructor <;> simp
  have hmeas : MeasConsistent .idle none false false false := by constructor <;> simp
  have hscan : 0#8 ≤ 128#8 := by decide
  exact State.Settled.inv_of_not_busy ⟨⟨hcal, hid, hmeas, hscan, iff_of_true rfl rfl⟩, nofun, rfl⟩ rfl

theorem hostReset_inv (h : hostReset s = .next t) : t.Inv := by
  unfold hostReset at h
  split at h <;> cases h
  exact reset_inv _ _ _ _

/-- Where nothing can be fetched, no op is in progress, no conversion is awaited and no request is outstanding. -/
theorem State.Inv.settled_of_fetch_error (h : s.Inv) {info : FaultInfo} (hf : fetch s = .error info) : s.Settled := by
  refine ⟨h.registers, fun hc => ?_, Option.eq_none_iff_forall_ne_some.mpr fun q hq => ?_⟩
  · rcases (h.converting_in_wait hc).2 with hi | hi <;> cases hf.symm.trans hi
  · obtain ⟨i, hi, -⟩ := h.outstanding_is_next q hq
    cases hf.symm.trans hi

/-- Settles O57, by the cases of a step: a host reset, a halted block, an illegal fetch, and an op (`exec_inv`). -/
theorem stepKeepsTheStateConsistent : Obligations.StepKeepsTheStateConsistent := by
  intro s t hinv h
  have hb : (atBoundary s).Inv := hinv.atBoundary
  rcases step_cases s with
    ⟨-, hs⟩ | ⟨-, -, hs⟩ | ⟨-, -, -, hs⟩ | ⟨-, -, hrun, ⟨info, hf, hs⟩ | ⟨i, hf, hs⟩⟩ <;> rw [hs] at h
  · cases h
  · exact hostReset_inv h
  · cases h; exact hb
  · cases h
    exact (hb.settled_of_fetch_error ((fetch_atBoundary s).trans hf)).raiseFault_inv (by simp) (by simp)
  · have hrun' : (atBoundary s).runState = .running := by rw [atBoundary_eq]; exact hrun
    exact exec_inv ⟨hb, hrun', (fetch_atBoundary s).trans hf⟩ h

/-! ### The state right after reset -/

theorem regWithin_none (lo hi : Int) : regWithin lo hi none := nofun

/-- Settles O56: the registers are empty, the trace is empty, and `upc` is 0. -/
theorem invariantsHoldAtReset : Obligations.InvariantsHoldAtReset := by
  have hinv : State.reset.Inv := reset_inv Config.reference [] [] []
  have hempty := regWithin_none
  refine ⟨hinv, ⟨hempty _ _, hempty _ _, hempty _ _, hempty _ _⟩, ⟨hinv, rfl, fun _ => rfl⟩, ?_⟩
  refine ⟨hinv, rfl, rfl, by decide, by decide, fun _ => ?_⟩
  exact
    { startup_no_record := fun _ => ⟨rfl, rfl⟩
      loop_has_record := fun h => absurd h (by decide)
      at_measure := fun _ _ => rfl
      measured := fun h => absurd h (by decide)
      at_report := fun h => absurd h (by decide) }

end Sys2Proof.Machine
end

section
/-! The state after reset, what halts the block, and what the ops of the sequencer and the scanner leave unchanged (10_state.md
R22, R40, R42). -/

namespace Sys2Proof.Machine

variable {s t : State} {i : Instr}

/-! ### Reset and rest -/

/-- Settles O1, element by element. -/
theorem resetStateValues : Obligations.ResetStateValues := by
  have hslots : ∀ slot, State.reset.calStage.get slot = none := by intro slot; cases slot <;> rfl
  exact ⟨rfl, rfl, rfl, rfl, rfl, rfl, rfl, hslots,
    rfl, rfl, rfl, rfl, rfl, rfl, rfl, rfl, rfl, rfl, rfl, rfl, rfl, rfl, rfl⟩

theorem step_of_halted (hc : configAccepted s.cfg = true) (hr : resetDue s = false) (hh : s.runState = .halted) :
    step s = .next (atBoundary s) := by
  simp [step, hc, hr, hh]

/-- Settles O11: the step is the boundary alone. -/
theorem haltedTakesNoStep : Obligations.HaltedTakesNoStep := by
  intro s hwf hticks hh
  have hr : resetDue s = false := beq_eq_false_iff_ne.mpr hticks
  rw [step_of_halted hwf hr hh, atBoundary_eq, atBoundary_timerSignal]

/-! ### Who halts the block (R22, R258) -/

/-- A fault with this opcode has been recorded at the `upc` of `s`. -/
def FaultRecorded (op : Byte) (s t : State) : Prop :=
  ∃ info, t.faultInfo = some info ∧ t.faultUpc = s.upc ∧ t.cause ≠ .none ∧ info.op = op

/-- From `s` to `t` the block has not been halted, unless by a fault of the op with this opcode. -/
def HaltsOnlyByFault (op : Byte) (s t : State) : Prop :=
  t.runState = s.runState ∨ FaultRecorded op s t

theorem raiseFault_haltsOnlyByFault {c : Cause} (hc : c ≠ .none) (info : FaultInfo) (s : State) :
    HaltsOnlyByFault info.op s (raiseFault c info s) := by
  rcases raiseFault_cases c info s with ⟨-, he⟩ | he | ⟨-, -, he⟩
  · exact .inl (by rw [he])
  · exact .inr ⟨info, by rw [he]; exact ⟨rfl, rfl, hc, rfl⟩⟩
  · refine .inr ⟨info, ?_⟩
    rw [he]
    rcases failCycle_cases c (s.saveFault c info) with he | he <;> (rw [he]; exact ⟨rfl, rfl, hc, rfl⟩)

theorem seqFault_haltsOnlyByFault (op : Byte) (s : State) : HaltsOnlyByFault op s (seqFault op s) :=
  raiseFault_haltsOnlyByFault (by simp) _ s

theorem divFault_haltsOnlyByFault (op : Byte) (s : State) : HaltsOnlyByFault op s (divFault op s) :=
  raiseFault_haltsOnlyByFault (by simp) _ s

theorem busFault_haltsOnlyByFault (op ptr : Byte) (k : ErrKind) (s : State) :
    HaltsOnlyByFault op s (busFault op ptr k s) :=
  raiseFault_haltsOnlyByFault (busCause_ne_none k) _ s

theorem idReadFailed_haltsOnlyByFault (s : State) (k : ErrKind) : HaltsOnlyByFault 0x04#8 s (s.idReadFailed k) := by
  unfold State.idReadFailed
  split
  · exact busFault_haltsOnlyByFault _ _ k s
  · exact .inl rfl

/-! ### The updates that keep `run_state` and `upc` -/

@[simp] theorem probed_runState (s : State) (a : BusAddr) (ack : Bool) : (s.probed a ack).runState = s.runState := by
  rw [probed_eq]

@[simp] theorem scanned_runState (s : State) (a : BitVec 8) (ack : Bool) : (s.scanned a ack).runState = s.runState := by
  by_cases ha : a = scanLast
  · rw [ha, scanned_last]; simp
  · rw [scanned_of_ne_last ha]; simp

@[simp] theorem identified_runState (s : State) (b : Byte) : (s.identified b).runState = s.runState := by
  rw [identified_eq]

@[simp] theorem enterCalib_runState (s : State) : s.enterCalib.runState = s.runState := by
  rw [enterCalib_eq]

@[simp] theorem enterCalib_upc (s : State) : s.enterCalib.upc = s.upc := by
  rw [enterCalib_eq]

/-- READ_CALIB's fault is raised after its initialisation, which keeps `run_state` and `upc` (R148). -/
theorem busFault_enterCalib_haltsOnlyByFault (op ptr : Byte) (k : ErrKind) (s : State) :
    HaltsOnlyByFault op s (busFault op ptr k s.enterCalib) := by
  have h := busFault_haltsOnlyByFault op ptr k s.enterCalib
  rwa [HaltsOnlyByFault, FaultRecorded, enterCalib_runState, enterCalib_upc] at h

/-! ### Each op but HALT halts the block by a fault of its own only -/

/-- A transaction halts the block only where what follows a failure does. -/
theorem transaction_haltsOnlyByFault {op : Byte} {req : BusReq} {onOk : Byte → Byte → State → State}
    {onErr : ErrKind → State → State} (hok : ∀ b0 b1 u, (onOk b0 b1 u).runState = u.runState)
    (herr : ∀ k u, HaltsOnlyByFault op u (onErr k u))
    (hnext : (∃ b0 b1 u, Answered req s (.inl (b0, b1)) u ∧ t = onOk b0 b1 u) ∨
      (∃ k u, Answered req s (.inr k) u ∧ t = onErr k u) ∨ Awaiting req s t) : HaltsOnlyByFault op s t := by
  rcases hnext with ⟨b0, b1, u, ⟨-⟩, rfl⟩ | ⟨k, u, ⟨-⟩, rfl⟩ | ⟨-⟩ | ⟨-⟩
  · exact .inl (hok _ _ _)
  · exact herr k (s.answered _ _ _)
  · exact .inl rfl
  · exact .inl rfl

theorem execReport_haltsOnlyByFault {tag : ReportTag} (h : execReport tag s = .next t) : HaltsOnlyByFault 0x01#8 s t := by
  rcases execReport_next h with ⟨r, -, rfl⟩ | ⟨-, rfl⟩
  · exact .inl rfl
  · exact seqFault_haltsOnlyByFault _ s

theorem execProbe_haltsOnlyByFault {a : BusAddr} (h : execProbe a s = .next t) : HaltsOnlyByFault 0x02#8 s t :=
  transaction_haltsOnlyByFault (by simp) (fun _ _ => .inl (by simp)) (execProbe_next h)

theorem execScan_haltsOnlyByFault (h : execScan s = .next t) : HaltsOnlyByFault 0x03#8 s t :=
  transaction_haltsOnlyByFault (by simp) (fun _ _ => .inl (by simp)) (execScan_next h)

theorem execReadId_haltsOnlyByFault (h : execReadId s = .next t) : HaltsOnlyByFault 0x04#8 s t :=
  transaction_haltsOnlyByFault (by simp) (fun k u => idReadFailed_haltsOnlyByFault u k) (execReadId_next h)

theorem execReadReg16_haltsOnlyByFault {p : Byte} {slot : Slot} (h : execReadReg16 p slot s = .next t) :
    HaltsOnlyByFault 0x05#8 s t :=
  transaction_haltsOnlyByFault (by intros; rfl) (busFault_haltsOnlyByFault _ p) (execReadReg16_next h)

theorem execCommitCalib_haltsOnlyByFault (h : execCommitCalib s = .next t) : HaltsOnlyByFault 0x06#8 s t := by
  rcases execCommitCalib_next h with ⟨-, -, cal, -, rfl⟩ | ⟨-, rfl⟩
  · exact .inl rfl
  · exact seqFault_haltsOnlyByFault _ s

theorem execReadCalib_haltsOnlyByFault (h : execReadCalib s = .next t) : HaltsOnlyByFault 0x07#8 s t := by
  rcases execReadCalib_next h with ⟨-, -, rfl⟩ | ⟨-, ⟨slot, -, hnext⟩ | ⟨-, ⟨cal, -, rfl⟩ | ⟨-, rfl⟩⟩⟩
  · exact seqFault_haltsOnlyByFault _ s
  · refine transaction_haltsOnlyByFault ?_ (busFault_enterCalib_haltsOnlyByFault _ _) hnext
    exact fun _ _ u => enterCalib_runState u
  · exact .inl rfl
  · exact seqFault_haltsOnlyByFault _ s

section Phases

variable {op : Byte} {fin : State → State}

theorem triggerPhase_haltsOnlyByFault (hfin : ∀ u, (fin u).runState = u.runState)
    (h : triggerPhase op fin s = .next t) : HaltsOnlyByFault op s t :=
  transaction_haltsOnlyByFault (by simp [hfin])
    (fun k u => busFault_haltsOnlyByFault op regCtrl k { u with rawValid := false }) (triggerPhase_next h)

theorem awaitPhase_runState (hfin : ∀ u, (fin u).runState = u.runState) (h : awaitPhase fin s = .next t) :
    t.runState = s.runState := by
  rcases awaitPhase_next h with ⟨-, rfl⟩ | ⟨-, rfl⟩
  · exact hfin _
  · rfl

theorem msbPhase_haltsOnlyByFault (hfin : ∀ u, (fin u).runState = u.runState) (h : msbPhase op fin s = .next t) :
    HaltsOnlyByFault op s t :=
  transaction_haltsOnlyByFault (by simp [hfin]) (busFault_haltsOnlyByFault op regMsb) (msbPhase_next h)

theorem lsbPhase_haltsOnlyByFault (hfin : ∀ u, (fin u).runState = u.runState) (h : lsbPhase op fin s = .next t) :
    HaltsOnlyByFault op s t := by
  rcases lsbPhase_next h with ⟨-, rfl⟩ | ⟨raw, -, hnext⟩
  · exact seqFault_haltsOnlyByFault op s
  · exact transaction_haltsOnlyByFault (by simp [hfin]) (busFault_haltsOnlyByFault op regLsb) hnext

end Phases

theorem execTrigger_haltsOnlyByFault (h : execTrigger s = .next t) : HaltsOnlyByFault 0x08#8 s t := by
  rcases execTrigger_next h with ⟨-, hp⟩ | ⟨-, rfl⟩
  · exact triggerPhase_haltsOnlyByFault done_runState hp
  · exact seqFault_haltsOnlyByFault _ s

theorem execWaitConv_haltsOnlyByFault (h : execWaitConv s = .next t) : HaltsOnlyByFault 0x09#8 s t := by
  rcases execWaitConv_next h with ⟨-, hp⟩ | ⟨-, -, rfl⟩ | ⟨-, -, rfl⟩
  · exact .inl (awaitPhase_runState done_runState hp)
  · exact .inl rfl
  · exact seqFault_haltsOnlyByFault _ s

theorem execReadMsb_haltsOnlyByFault (h : execReadMsb s = .next t) : HaltsOnlyByFault 0x0A#8 s t := by
  rcases execReadMsb_next h with ⟨-, hp⟩ | ⟨-, rfl⟩
  · exact msbPhase_haltsOnlyByFault done_runState hp
  · exact seqFault_haltsOnlyByFault _ s

theorem execReadLsb_haltsOnlyByFault (h : execReadLsb s = .next t) : HaltsOnlyByFault 0x0B#8 s t := by
  rcases execReadLsb_next h with ⟨-, hp⟩ | ⟨-, rfl⟩
  · exact lsbPhase_haltsOnlyByFault done_runState hp
  · exact seqFault_haltsOnlyByFault _ s

theorem execMeasure_haltsOnlyByFault (h : execMeasure s = .next t) : HaltsOnlyByFault 0x0C#8 s t := by
  rcases execMeasure_next h with
    ⟨-, -, hp⟩ | ⟨-, -, rfl⟩ | ⟨-, ⟨-, rfl⟩ | ⟨-, hp⟩ | ⟨-, hp⟩ | ⟨-, hp⟩ | ⟨-, rfl⟩⟩
  · exact triggerPhase_haltsOnlyByFault (fin := State.beginMeasure) (fun _ => rfl) hp
  · exact seqFault_haltsOnlyByFault _ s
  · exact .inl rfl
  · exact .inl (awaitPhase_runState (fun _ => rfl) hp)
  · exact msbPhase_haltsOnlyByFault (fun _ => rfl) hp
  · exact lsbPhase_haltsOnlyByFault done_runState hp
  · exact .inl rfl

theorem execCmpX1_haltsOnlyByFault (h : execCmpX1 s = .next t) : HaltsOnlyByFault 0x0D#8 s t := by
  rcases execCmpX1_next h with ⟨raw, cal, -, -, rfl⟩ | ⟨-, rfl⟩
  · exact .inl rfl
  · exact seqFault_haltsOnlyByFault _ s

theorem execCmpX2_haltsOnlyByFault (h : execCmpX2 s = .next t) : HaltsOnlyByFault 0x0E#8 s t := by
  rcases execCmpX2_next h with ⟨x1, cal, -, -, ⟨-, rfl⟩ | ⟨-, rfl⟩⟩ | ⟨-, rfl⟩
  · exact divFault_haltsOnlyByFault _ s
  · exact .inl rfl
  · exact seqFault_haltsOnlyByFault _ s

theorem execCmpB5_haltsOnlyByFault (h : execCmpB5 s = .next t) : HaltsOnlyByFault 0x0F#8 s t := by
  rcases execCmpB5_next h with ⟨x1, x2, -, -, rfl⟩ | ⟨-, rfl⟩
  · exact .inl rfl
  · exact seqFault_haltsOnlyByFault _ s

theorem execCmpT_haltsOnlyByFault (h : execCmpT s = .next t) : HaltsOnlyByFault 0x10#8 s t := by
  rcases execCmpT_next h with ⟨b5, -, rfl⟩ | ⟨-, rfl⟩
  · exact .inl rfl
  · exact seqFault_haltsOnlyByFault _ s

theorem execCompensate_haltsOnlyByFault (h : execCompensate s = .next t) : HaltsOnlyByFault 0x11#8 s t := by
  rcases execCompensate_next h with ⟨raw, cal, -, -, ⟨x1, x2, b5, v, -, rfl⟩ | ⟨x1, -, rfl⟩⟩ | ⟨-, rfl⟩
  · exact .inl rfl
  · exact divFault_haltsOnlyByFault _ s
  · exact seqFault_haltsOnlyByFault _ s

theorem exec_haltsOnlyByFault (hi : i ≠ .halt) (h : exec i s = .next t) : HaltsOnlyByFault i.opcode s t := by
  cases i with
  | report tag => exact execReport_haltsOnlyByFault h
  | probe a => exact execProbe_haltsOnlyByFault h
  | scan => exact execScan_haltsOnlyByFault h
  | readId => exact execReadId_haltsOnlyByFault h
  | readReg16 p slot => exact execReadReg16_haltsOnlyByFault h
  | commitCalib => exact execCommitCalib_haltsOnlyByFault h
  | readCalib => exact execReadCalib_haltsOnlyByFault h
  | trigger => exact execTrigger_haltsOnlyByFault h
  | waitConv => exact execWaitConv_haltsOnlyByFault h
  | readMsb => exact execReadMsb_haltsOnlyByFault h
  | readLsb => exact execReadLsb_haltsOnlyByFault h
  | measure => exact execMeasure_haltsOnlyByFault h
  | cmpX1 => exact execCmpX1_haltsOnlyByFault h
  | cmpX2 => exact execCmpX2_haltsOnlyByFault h
  | cmpB5 => exact execCmpB5_haltsOnlyByFault h
  | cmpT => exact execCmpT_haltsOnlyByFault h
  | compensate => exact execCompensate_haltsOnlyByFault h
  | jmp n => cases h; exact .inl rfl
  | halt => exact absurd rfl hi

/-- Settles O22: HALT leaves the fault registers, and every other op halts by a fault of its own (`exec_haltsOnlyByFault`). -/
theorem onlyHaltAndFaultsHalt : Obligations.OnlyHaltAndFaultsHalt := by
  intro i s t h hrun hhalt
  by_cases hi : i = .halt
  · subst hi
    cases h
    exact .inl ⟨rfl, rfl, rfl⟩
  · rcases exec_haltsOnlyByFault hi h with hsame | hfault
    · simp [hsame, hrun] at hhalt
    · exact .inr hfault

/-! ### Frames of the sequencer's ops and of the scanner (R42) -/

theorem execReport_frame {tag : ReportTag} (h : execReport tag s = .next t) :
    t = { s with
      upc := t.upc, busy := false, trace := t.trace
      cause := t.cause, faultUpc := t.faultUpc, faultInfo := t.faultInfo, runState := t.runState } := by
  rcases execReport_next h with ⟨r, -, rfl⟩ | ⟨-, rfl⟩
  · rfl
  · rw [seqFault_eq]; rfl

theorem probed_done_frame (s : State) (a : BusAddr) (ack : Bool) :
    (s.probed a ack).done = { s with
      probeAck := ack, upc := s.upc + 1#9, busy := false, trace := (s.probed a ack).trace } := by
  rw [probed_eq]; rfl

theorem scanned_frame (s : State) (a : BitVec 8) (ack : Bool) :
    s.scanned a ack = { s with
      scanAddr := a + 1#8, probeAck := ack, upc := (s.scanned a ack).upc, busy := (s.scanned a ack).busy
      trace := (s.scanned a ack).trace } := by
  by_cases ha : a = scanLast
  · rw [ha, scanned_last, probed_eq]; rfl
  · rw [scanned_of_ne_last ha, probed_eq]

theorem execProbe_frame {a : BusAddr} (h : execProbe a s = .next t) :
    t = { s with
      probeAck := t.probeAck, upc := t.upc, busy := t.busy, trace := t.trace, busIn := t.busIn, busReq := t.busReq } := by
  rcases execProbe_next h with ⟨b0, b1, u, ⟨-⟩, rfl⟩ | ⟨k, u, ⟨-⟩, rfl⟩ | ⟨-⟩ | ⟨-⟩
  · rw [probed_done_frame]; rfl
  · rw [probed_done_frame]; rfl
  · rfl
  · rfl

theorem execScan_frame (h : execScan s = .next t) :
    t = { s with
      scanAddr := t.scanAddr, probeAck := t.probeAck, upc := t.upc, busy := t.busy
      trace := t.trace, busIn := t.busIn, busReq := t.busReq } := by
  rcases execScan_next h with ⟨b0, b1, u, ⟨-⟩, rfl⟩ | ⟨k, u, ⟨-⟩, rfl⟩ | ⟨-⟩ | ⟨-⟩
  · rw [scanned_frame]; rfl
  · rw [scanned_frame]; rfl
  · rfl
  · rfl

/-- Settles O52, op by op. -/
theorem frameOfSequencerAndScanner : Obligations.FrameOfSequencerAndScanner := by
  intro s t
  refine ⟨fun tag h => execReport_frame h, fun n h => ?_, fun h => ?_, fun a h => execProbe_frame h,
    fun h => execScan_frame h⟩
  · cases h; rfl
  · cases h; rfl

end Sys2Proof.Machine
end

section
/-! What a step puts on the bus (20_memory.md R51, R58; 30_encoding.md R78; 40_transport.md R108). A step of an op has at most one
interaction with the ports, the transaction `busRequest` names or one with the timer, and after it appends report records only
(45_sequencer.md R221). -/

namespace Sys2Proof.Machine

variable {s t : State} {i : Instr} {q : Option BusReq}

/-! ### Report records only -/

/-- From `s` to `t` nothing but report records is appended to the trace, and the bus port is left as it is. -/
def OnlyReports (s t : State) : Prop :=
  ∃ rs : List Record, t.trace = s.trace ++ rs.map .report ∧ t.busReq = s.busReq

theorem onlyReports_of_eq (htrace : t.trace = s.trace) (hreq : t.busReq = s.busReq) : OnlyReports s t :=
  ⟨[], by simp [htrace], hreq⟩

theorem done_onlyReports (s : State) : OnlyReports s s.done := onlyReports_of_eq rfl rfl

theorem OnlyReports.done (h : OnlyReports s t) : OnlyReports s t.done := h

theorem raiseFault_onlyReports (c : Cause) (info : FaultInfo) (s : State) : OnlyReports s (raiseFault c info s) := by
  rcases raiseFault_cases c info s with ⟨-, he⟩ | he | ⟨-, -, he⟩ <;> rw [he]
  · exact onlyReports_of_eq rfl rfl
  · exact onlyReports_of_eq rfl rfl
  · rcases failCycle_cases c (s.saveFault c info) with he | he <;> rw [he] <;> exact ⟨[.cycleError c], rfl, rfl⟩

theorem seqFault_onlyReports (op : Byte) (s : State) : OnlyReports s (seqFault op s) := raiseFault_onlyReports _ _ s

theorem divFault_onlyReports (op : Byte) (s : State) : OnlyReports s (divFault op s) := raiseFault_onlyReports _ _ s

theorem busFault_onlyReports (op ptr : Byte) (k : ErrKind) (s : State) : OnlyReports s (busFault op ptr k s) :=
  raiseFault_onlyReports _ _ s

theorem probed_onlyReports (s : State) (a : BusAddr) (ack : Bool) : OnlyReports s (s.probed a ack) := by
  cases ack with
  | true => exact ⟨[.found a], rfl, rfl⟩
  | false => exact onlyReports_of_eq rfl rfl

theorem scanned_onlyReports (s : State) (a : BitVec 8) (ack : Bool) : OnlyReports s (s.scanned a ack) := by
  by_cases ha : a = scanLast
  · rw [ha, scanned_last]
    exact probed_onlyReports s _ ack
  · rw [scanned_of_ne_last ha]
    exact probed_onlyReports s _ ack

theorem identified_onlyReports (s : State) (b : Byte) : OnlyReports s (s.identified b) := by
  unfold State.identified
  split
  · exact ⟨[.idIs b], rfl, rfl⟩
  · exact ⟨[.idUndetected], rfl, rfl⟩

theorem idReadFailed_onlyReports (s : State) (k : ErrKind) : OnlyReports s (s.idReadFailed k) := by
  unfold State.idReadFailed
  split
  · exact busFault_onlyReports _ _ k s
  · exact ⟨[.idUndetected], rfl, rfl⟩

theorem stage_onlyReports (s : State) (slot : Slot) (b0 b1 : Byte) : OnlyReports s (s.stage slot b0 b1) :=
  onlyReports_of_eq rfl rfl

@[simp] theorem enterCalib_trace (s : State) : s.enterCalib.trace = s.trace := by
  rw [enterCalib_eq]

@[simp] theorem enterCalib_busReq (s : State) : s.enterCalib.busReq = s.busReq := by
  rw [enterCalib_eq]

/-- READ_CALIB's fault is raised after its initialisation, which appends nothing (R148). -/
theorem busFault_enterCalib_onlyReports (op ptr : Byte) (k : ErrKind) (s : State) :
    OnlyReports s (busFault op ptr k s.enterCalib) := by
  have h := busFault_onlyReports op ptr k s.enterCalib
  rwa [OnlyReports, enterCalib_trace, enterCalib_busReq] at h

/-! ### The interaction of a step -/

/-- What a step that may ask the bus for `q` does at the ports. -/
inductive Interacts (q : Option BusReq) (s t : State) : Prop
  /-- nothing -/
  | internal (h : OnlyReports s t)
  /-- TimerStart or TimerAwait (R170) -/
  | timer (e : Event) (he : e = .timerStart ∨ e = .timerElapsed) (h : OnlyReports (s.log [e]) t)
  /-- the transaction has its response -/
  | answered {req : BusReq} {a : (Byte × Byte) ⊕ ErrKind} {u : State} (hq : q = some req) (ha : Answered req s a u)
      (h : OnlyReports u t)
  /-- the request is left outstanding -/
  | waiting {req : BusReq} (hq : q = some req) (hw : Awaiting req s t)

theorem Answered.ports {req : BusReq} {a : (Byte × Byte) ⊕ ErrKind} {u : State} (h : Answered req s a u) :
    ∃ resp, u.trace = s.trace ++ [.bus req resp] ∧ u.busReq = none := by
  cases h <;> exact ⟨_, rfl, rfl⟩

theorem Awaiting.ports {req : BusReq} (h : Awaiting req s t) : t.trace = s.trace ∧ t.busReq = some req := by
  cases h <;> exact ⟨rfl, rfl⟩

/-- A transaction is all the interaction of its step when report records only follow either answer. -/
theorem transaction_interacts {req : BusReq} {onOk : Byte → Byte → State → State} {onErr : ErrKind → State → State}
    (hq : q = some req) (hok : ∀ b0 b1 u, OnlyReports u (onOk b0 b1 u)) (herr : ∀ k u, OnlyReports u (onErr k u))
    (hnext : (∃ b0 b1 u, Answered req s (.inl (b0, b1)) u ∧ t = onOk b0 b1 u) ∨
      (∃ k u, Answered req s (.inr k) u ∧ t = onErr k u) ∨ Awaiting req s t) : Interacts q s t := by
  rcases hnext with ⟨b0, b1, u, ha, rfl⟩ | ⟨k, u, ha, rfl⟩ | hw
  · exact .answered hq ha (hok b0 b1 u)
  · exact .answered hq ha (herr k u)
  · exact .waiting hq hw

theorem interacts_of_eq (htrace : t.trace = s.trace) (hreq : t.busReq = s.busReq) : Interacts q s t :=
  .internal (onlyReports_of_eq htrace hreq)

theorem seqFault_interacts (op : Byte) (s : State) : Interacts q s (seqFault op s) := .internal (seqFault_onlyReports op s)

theorem divFault_interacts (op : Byte) (s : State) : Interacts q s (divFault op s) := .internal (divFault_onlyReports op s)

/-! ### Scanner, calibration and sequencer ops -/

theorem execReport_interacts {tag : ReportTag} (h : execReport tag s = .next t) : Interacts q s t := by
  rcases execReport_next h with ⟨r, -, rfl⟩ | ⟨-, rfl⟩
  · exact .internal ⟨[r], rfl, rfl⟩
  · exact seqFault_interacts _ s

theorem execProbe_interacts {a : BusAddr} (h : execProbe a s = .next t) : Interacts (busRequest (.probe a) s) s t :=
  transaction_interacts rfl (fun _ _ u => (probed_onlyReports u a true).done)
    (fun _ u => (probed_onlyReports u a false).done) (execProbe_next h)

theorem execScan_interacts (h : execScan s = .next t) : Interacts (busRequest .scan s) s t :=
  transaction_interacts rfl (fun _ _ u => scanned_onlyReports u _ true) (fun _ u => scanned_onlyReports u _ false)
    (execScan_next h)

theorem execReadId_interacts (h : execReadId s = .next t) : Interacts (busRequest .readId s) s t :=
  transaction_interacts rfl (fun b _ u => (identified_onlyReports u b).done)
    (fun k u => idReadFailed_onlyReports u k) (execReadId_next h)

theorem execReadReg16_interacts {p : Byte} {slot : Slot} (h : execReadReg16 p slot s = .next t) :
    Interacts (busRequest (.readReg16 p slot) s) s t :=
  transaction_interacts rfl (fun b0 b1 u => (stage_onlyReports u slot b0 b1).done) (busFault_onlyReports _ p)
    (execReadReg16_next h)

theorem execCommitCalib_interacts (h : execCommitCalib s = .next t) : Interacts q s t := by
  rcases execCommitCalib_next h with ⟨-, -, cal, -, rfl⟩ | ⟨-, rfl⟩
  · exact interacts_of_eq rfl rfl
  · exact seqFault_interacts _ s

theorem execReadCalib_interacts (h : execReadCalib s = .next t) : Interacts (busRequest .readCalib s) s t := by
  rcases execReadCalib_next h with ⟨-, -, rfl⟩ | ⟨hguard, ⟨slot, hslot, hnext⟩ | ⟨-, ⟨cal, -, rfl⟩ | ⟨-, rfl⟩⟩⟩
  · exact seqFault_interacts _ s
  · have hq : busRequest .readCalib s = some (readReq (slotPtr slot) 2) := by simp [busRequest_readCalib hguard, hslot]
    refine transaction_interacts hq (fun _ _ u => ?_) (busFault_enterCalib_onlyReports _ _) hnext
    exact onlyReports_of_eq (enterCalib_trace u) (enterCalib_busReq u)
  · exact .internal ⟨[.ac5 cal.ac5, .ac6 cal.ac6, .mc cal.mc, .md cal.md], rfl, rfl⟩
  · exact seqFault_interacts _ s

/-! ### The measurement's phases and ops -/

section Phases

variable {op : Byte} {fin : State → State}

theorem triggerPhase_interacts (hq : q = some triggerReq) (hfin : ∀ u, OnlyReports u (fin u))
    (h : triggerPhase op fin s = .next t) : Interacts q s t :=
  transaction_interacts hq (fun _ _ u => hfin { u with rawValid := false, measState := .triggered })
    (fun k u => busFault_onlyReports op regCtrl k { u with rawValid := false }) (triggerPhase_next h)

theorem awaitPhase_interacts (hfin : ∀ u, OnlyReports u (fin u)) (h : awaitPhase fin s = .next t) :
    Interacts q s t := by
  rcases awaitPhase_next h with ⟨-, rfl⟩ | ⟨-, rfl⟩
  · exact .timer _ (.inr rfl) (hfin { s.takeElapsed with measState := .readMsb })
  · exact interacts_of_eq rfl rfl

theorem msbPhase_interacts (hq : q = some (readReq regMsb 1)) (hfin : ∀ u, OnlyReports u (fin u))
    (h : msbPhase op fin s = .next t) : Interacts q s t :=
  transaction_interacts hq (fun b _ u => hfin { u with raw := some (rawFromMsb b), measState := .readLsb })
    (busFault_onlyReports op regMsb) (msbPhase_next h)

theorem lsbPhase_interacts (hq : s.raw.isSome = true → q = some (readReq regLsb 1))
    (hfin : ∀ u, OnlyReports u (fin u)) (h : lsbPhase op fin s = .next t) : Interacts q s t := by
  rcases lsbPhase_next h with ⟨-, rfl⟩ | ⟨raw, hraw, hnext⟩
  · exact seqFault_interacts op s
  · exact transaction_interacts (hq (by simp [hraw]))
      (fun b _ u => hfin { u with raw := some (rawWithLsb raw b), rawValid := true, measState := .complete })
      (busFault_onlyReports op regLsb) hnext

end Phases

theorem execTrigger_interacts (h : execTrigger s = .next t) : Interacts (busRequest .trigger s) s t := by
  rcases execTrigger_next h with ⟨hm, hp⟩ | ⟨-, rfl⟩
  · exact triggerPhase_interacts (if_pos hm) done_onlyReports hp
  · exact seqFault_interacts _ s

theorem execWaitConv_interacts (h : execWaitConv s = .next t) : Interacts q s t := by
  rcases execWaitConv_next h with ⟨-, hp⟩ | ⟨-, -, rfl⟩ | ⟨-, -, rfl⟩
  · exact awaitPhase_interacts done_onlyReports hp
  · exact .timer _ (.inl rfl) (onlyReports_of_eq rfl rfl)
  · exact seqFault_interacts _ s

theorem execReadMsb_interacts (h : execReadMsb s = .next t) : Interacts (busRequest .readMsb s) s t := by
  rcases execReadMsb_next h with ⟨hm, hp⟩ | ⟨-, rfl⟩
  · exact msbPhase_interacts (if_pos hm) done_onlyReports hp
  · exact seqFault_interacts _ s

theorem execReadLsb_interacts (h : execReadLsb s = .next t) : Interacts (busRequest .readLsb s) s t := by
  rcases execReadLsb_next h with ⟨hm, hp⟩ | ⟨-, rfl⟩
  · exact lsbPhase_interacts (fun hraw => if_pos ⟨hm, hraw⟩) done_onlyReports hp
  · exact seqFault_interacts _ s

theorem execMeasure_interacts (h : execMeasure s = .next t) : Interacts (busRequest .measure s) s t := by
  have hid : ∀ u, OnlyReports u (id u) := fun _ => onlyReports_of_eq rfl rfl
  rcases execMeasure_next h with
    ⟨hb, hm, hp⟩ | ⟨-, -, rfl⟩ | ⟨hb, ⟨-, rfl⟩ | ⟨-, hp⟩ | ⟨hm, hp⟩ | ⟨hm, hp⟩ | ⟨-, rfl⟩⟩
  · exact triggerPhase_interacts (fin := State.beginMeasure) (by simp [busRequest, hb, hm])
      (fun _ => onlyReports_of_eq rfl rfl) hp
  · exact seqFault_interacts _ s
  · exact .timer _ (.inl rfl) (onlyReports_of_eq rfl rfl)
  · exact awaitPhase_interacts hid hp
  · exact msbPhase_interacts (by simp [busRequest, hb, hm, regMsb]) hid hp
  · exact lsbPhase_interacts (fun hraw => by simp [busRequest, hb, hm, hraw, regLsb]) done_onlyReports hp
  · exact interacts_of_eq rfl rfl

/-! ### The compensation ops -/

theorem execCmpX1_interacts (h : execCmpX1 s = .next t) : Interacts q s t := by
  rcases execCmpX1_next h with ⟨raw, cal, -, -, rfl⟩ | ⟨-, rfl⟩
  · exact interacts_of_eq rfl rfl
  · exact seqFault_interacts _ s

theorem execCmpX2_interacts (h : execCmpX2 s = .next t) : Interacts q s t := by
  rcases execCmpX2_next h with ⟨x1, cal, -, -, ⟨-, rfl⟩ | ⟨-, rfl⟩⟩ | ⟨-, rfl⟩
  · exact divFault_interacts _ s
  · exact interacts_of_eq rfl rfl
  · exact seqFault_interacts _ s

theorem execCmpB5_interacts (h : execCmpB5 s = .next t) : Interacts q s t := by
  rcases execCmpB5_next h with ⟨x1, x2, -, -, rfl⟩ | ⟨-, rfl⟩
  · exact interacts_of_eq rfl rfl
  · exact seqFault_interacts _ s

theorem execCmpT_interacts (h : execCmpT s = .next t) : Interacts q s t := by
  rcases execCmpT_next h with ⟨b5, -, rfl⟩ | ⟨-, rfl⟩
  · exact interacts_of_eq rfl rfl
  · exact seqFault_interacts _ s

theorem execCompensate_interacts (h : execCompensate s = .next t) : Interacts q s t := by
  rcases execCompensate_next h with ⟨raw, cal, -, -, ⟨x1, x2, b5, v, -, rfl⟩ | ⟨x1, -, rfl⟩⟩ | ⟨-, rfl⟩
  · exact interacts_of_eq rfl rfl
  · exact divFault_interacts _ s
  · exact seqFault_interacts _ s

/-! ### Every op and every step -/

/-- An op asks the bus for what `busRequest` says, and for nothing else (R78). -/
theorem exec_interacts (h : exec i s = .next t) : Interacts (busRequest i s) s t := by
  cases i with
  | report tag => exact execReport_interacts h
  | probe a => exact execProbe_interacts h
  | scan => exact execScan_interacts h
  | readId => exact execReadId_interacts h
  | readReg16 p slot => exact execReadReg16_interacts h
  | commitCalib => exact execCommitCalib_interacts h
  | readCalib => exact execReadCalib_interacts h
  | trigger => exact execTrigger_interacts h
  | waitConv => exact execWaitConv_interacts h
  | readMsb => exact execReadMsb_interacts h
  | readLsb => exact execReadLsb_interacts h
  | measure => exact execMeasure_interacts h
  | cmpX1 => exact execCmpX1_interacts h
  | cmpX2 => exact execCmpX2_interacts h
  | cmpB5 => exact execCmpB5_interacts h
  | cmpT => exact execCmpT_interacts h
  | compensate => exact execCompensate_interacts h
  | jmp n => cases h; exact interacts_of_eq rfl rfl
  | halt => cases h; exact interacts_of_eq rfl rfl

/-- From `s` to `t` every transaction put in the trace, and every request newly outstanding, meets `P`. -/
def IssuesOnly (P : BusReq → Prop) (s t : State) : Prop :=
  (∃ es, t.trace = s.trace ++ es ∧ ∀ req resp, .bus req resp ∈ es → P req) ∧
  ∀ req, t.busReq = some req → s.busReq = some req ∨ P req

theorem OnlyReports.issuesOnly {P : BusReq → Prop} (h : OnlyReports s t) : IssuesOnly P s t := by
  obtain ⟨rs, htrace, hreq⟩ := h
  exact ⟨⟨_, htrace, by simp⟩, fun req hr => .inl (hreq.symm.trans hr)⟩

theorem Interacts.issuesOnly {P : BusReq → Prop} (h : Interacts q s t) (hP : ∀ req, q = some req → P req) :
    IssuesOnly P s t := by
  cases h with
  | internal h => exact h.issuesOnly
  | timer e he h =>
    obtain ⟨rs, htrace, hreq⟩ := h
    refine ⟨⟨_, htrace.trans (List.append_assoc ..), fun req resp hmem => ?_⟩, fun req hr => .inl (hreq.symm.trans hr)⟩
    rcases he with rfl | rfl <;> simp at hmem
  | @answered req a u hq ha h =>
    obtain ⟨rs, htrace, hreq⟩ := h
    obtain ⟨resp, hu, hidle⟩ := ha.ports
    refine ⟨⟨.bus req resp :: rs.map .report, by simp [htrace, hu], fun req' resp' hmem => ?_⟩, by simp [hreq, hidle]⟩
    obtain ⟨rfl, -⟩ : req' = req ∧ resp' = resp := by simpa using hmem
    exact hP _ hq
  | waiting hq hw =>
    obtain ⟨htrace, hreq⟩ := hw.ports
    exact ⟨⟨[], by simp [htrace], by simp⟩, fun req' hr => .inr (hP _ (hq.trans (hreq.symm.trans hr)))⟩

theorem hostReset_issuesOnly {P : BusReq → Prop} (h : hostReset s = .next t) : IssuesOnly P s t := by
  unfold hostReset at h
  split at h <;> cases h
  exact ⟨⟨[.reset], rfl, by simp⟩, by simp [State.reset]⟩

@[simp] theorem atBoundary_trace (s : State) : (atBoundary s).trace = s.trace := by
  rw [atBoundary_eq]

@[simp] theorem atBoundary_busReq (s : State) : (atBoundary s).busReq = s.busReq := by
  rw [atBoundary_eq]

theorem atBoundary_issuesOnly {P : BusReq → Prop} : IssuesOnly P (atBoundary s) t ↔ IssuesOnly P s t := by
  simp only [IssuesOnly, atBoundary_trace, atBoundary_busReq]

/-- A step issues only the request of the op at `upc`. -/
theorem step_issuesOnly (h : step s = .next t) :
    IssuesOnly (fun req => ∃ i, fetch s = .ok i ∧ busRequest i (atBoundary s) = some req) s t := by
  rcases step_cases s with
    ⟨-, hs⟩ | ⟨-, -, hs⟩ | ⟨-, -, -, hs⟩ | ⟨-, -, -, ⟨info, -, hs⟩ | ⟨i, hf, hs⟩⟩ <;> rw [hs] at h
  · cases h
  · exact hostReset_issuesOnly h
  · cases h
    exact (onlyReports_of_eq (atBoundary_trace s) (atBoundary_busReq s)).issuesOnly
  · cases h
    exact atBoundary_issuesOnly.mp (raiseFault_onlyReports _ _ _).issuesOnly
  · exact atBoundary_issuesOnly.mp ((exec_interacts h).issuesOnly fun req hq => ⟨i, hf, hq⟩)

/-! ### The requests are those of R58 -/

theorem slotPtr_mem (slot : Slot) : slotPtr slot ∈ [0xB2#8, 0xB4#8, 0xBC#8, 0xBE#8] := by
  cases slot <;> decide

/-- What `busRequest` says an op asks for is a row of R58's table. -/
theorem transactionOf_of_busRequest {req : BusReq} (h : busRequest i s = some req) : transactionOf s.cfg i req := by
  cases i with
  | probe _ | readId | readReg16 _ _ => cases h; rfl
  | scan => cases h; exact ⟨_, rfl⟩
  | readCalib =>
    obtain ⟨-, hmap⟩ := Option.ite_none_left_eq_some.mp h
    obtain ⟨slot, -, rfl⟩ := Option.map_eq_some_iff.mp hmap
    exact ⟨slotPtr slot, slotPtr_mem slot, rfl⟩
  | trigger | readMsb | readLsb => obtain ⟨-, ⟨⟩⟩ := Option.ite_none_right_eq_some.mp h; rfl
  | measure =>
    simp only [busRequest] at h
    split at h
    · split at h
      · cases h; exact .inr (.inl rfl)
      · obtain ⟨-, ⟨⟩⟩ := Option.ite_none_right_eq_some.mp h; exact .inr (.inr rfl)
    · obtain ⟨-, ⟨⟩⟩ := Option.ite_none_right_eq_some.mp h; exact .inl rfl
  | report _ | commitCalib | waitConv | cmpX1 | cmpX2 | cmpB5 | cmpT | compensate | jmp _ | halt => cases h

theorem IssuesOnly.mono {P Q : BusReq → Prop} (hPQ : ∀ req, P req → Q req) (h : IssuesOnly P s t) :
    IssuesOnly Q s t := by
  obtain ⟨⟨es, htrace, hes⟩, hreq⟩ := h
  exact ⟨⟨es, htrace, fun req resp hmem => hPQ req (hes req resp hmem)⟩, fun req hr => (hreq req hr).imp_right (hPQ req)⟩

/-- Settles O15: a step issues the request of the op at `upc` only, `State.Inv` says that of the one left from before, and each
is a row of the table. -/
theorem requestsAreThoseOfTheTable : Obligations.RequestsAreThoseOfTheTable := by
  refine ⟨fun s t h => ?_, fun i s q => transactionOf_of_busRequest⟩
  obtain ⟨htrace, hreq⟩ := (step_issuesOnly h).mono (Q := fun q => ∃ i, fetch s = .ok i ∧ transactionOf s.cfg i q)
    fun q ⟨i, hf, hq⟩ => ⟨i, hf, atBoundary_cfg s ▸ transactionOf_of_busRequest hq⟩
  refine ⟨htrace, hreq, fun hinv q hq => ?_⟩
  rcases hreq q hq with hbefore | hop
  · obtain ⟨i, hf, hi⟩ := hinv.outstanding_is_next q hbefore
    exact ⟨i, hf, transactionOf_of_busRequest hi⟩
  · exact hop

end Sys2Proof.Machine
end

section
/-! The decoder and the encoder are inverse (30_encoding.md R70, R71, R73 to R75). A row of the opcode map is read through the
fields of its mask and pattern: it admits the fields with its opcode, RSV 0 and no unused bit set. So the rows of one word are one
(45_sequencer.md R223), and what an admitting row reads is the op whose fields these are. -/

namespace Sys2Proof

open Sys2Proof.Laws.WordShape

variable {r r' : OpRow} {w : Word} {f : OpFields} {i : Instr}

/-! ### A word is its fields (R70) -/

theorem word_fieldsOf (w : Word) : (fieldsOf w).word = w := by
  ext n hn
  have bit := four_bytes_bit (fieldsOf w).rsv (fieldsOf w).b (fieldsOf w).a (fieldsOf w).opc n
  rw [← BitVec.getLsbD_eq_getElem, ← BitVec.getLsbD_eq_getElem]
  refine bit.trans ?_
  simp only [fieldsOf, BitVec.getLsbD_extractLsb']
  split_ifs with hlow
  · rw [Nat.zero_add, decide_eq_true hlow, Bool.true_and]
  all_goals rw [Nat.add_sub_cancel' (by omega), decide_eq_true (by omega), Bool.true_and]

theorem fieldsOf_inj {v w : Word} : fieldsOf v = fieldsOf w ↔ v = w :=
  (Function.LeftInverse.injective word_fieldsOf).eq_iff

@[simp] theorem fieldsOf_encode (i : Instr) : fieldsOf (encode i) = i.fields :=
  fieldsOf_word i.fields

theorem encode_eq_iff : encode i = w ↔ i.fields = fieldsOf w := by
  rw [← fieldsOf_encode, fieldsOf_inj]

theorem fieldsOf_and (v w : Word) :
    fieldsOf (v &&& w) =
      ⟨(fieldsOf v).opc &&& (fieldsOf w).opc, (fieldsOf v).a &&& (fieldsOf w).a,
        (fieldsOf v).b &&& (fieldsOf w).b, (fieldsOf v).rsv &&& (fieldsOf w).rsv⟩ := by
  simp [fieldsOf, BitVec.extractLsb'_and]

/-! ### Unused bits (R71) -/

/-- No bit of `v` from bit `n` on is set exactly when the low `n` bits are all of it. -/
theorem and_not_low_eq_zero_iff (n : Nat) (v : Byte) :
    v &&& ~~~(BitVec.allOnes n).setWidth 8 = 0#8 ↔ (v.setWidth n).setWidth 8 = v := by
  simp only [BitVec.eq_of_getElem_eq_iff]
  refine forall₂_congr fun k hk => ?_
  by_cases hn : k < n <;> simp [hn, hk]

/-- `BitVec.and_allOnes` at the mask of a used byte, as R73 writes it. -/
@[simp] theorem and_all_ones (v : Byte) : v &&& 0xFF#8 = v := BitVec.and_allOnes

@[simp] theorem code_ofBits (v : BitVec 2) : (Slot.ofBits v).code = v := by
  revert v; decide

theorem unusedZero_iff :
    f.unusedZero = true ↔ f.a &&& ~~~usedA f.opc = 0#8 ∧ f.b &&& ~~~usedB f.opc = 0#8 := by
  simp only [OpFields.unusedZero, Bool.and_eq_true, beq_iff_eq]

theorem fields_unusedZero (i : Instr) : i.fields.unusedZero = true := by
  refine unusedZero_iff.mpr ?_
  simp only [Instr.fields]
  cases i with
  | probe a =>
    simpa [Instr.opcode, Instr.fieldA, Instr.fieldB, usedA, usedB] using
      (and_not_low_eq_zero_iff 7 (a.setWidth 8)).mpr (by simp)
  | readReg16 p slot =>
    simpa [Instr.opcode, Instr.fieldA, Instr.fieldB, usedA, usedB] using
      (and_not_low_eq_zero_iff 2 (slot.code.setWidth 8)).mpr (by simp)
  | _ => simp [Instr.opcode, Instr.fieldA, Instr.fieldB, usedA, usedB]

theorem fields_tagLegal (i : Instr) : i.fields.tagLegal = true := by
  cases i with
  | report tag => cases tag <;> rfl
  | _ => rfl

theorem fields_opcodeKnown (i : Instr) : i.fields.opcodeKnown = true := by
  cases i <;> rfl

theorem wf_iff :
    f.wf = true ↔ f.opcodeKnown = true ∧ f.rsv = 0#8 ∧ f.unusedZero = true ∧ f.tagLegal = true := by
  simp [OpFields.wf, OpFields.reservedZero, and_assoc]

/-- The word of an op passes the check of R74. -/
theorem fields_wf (i : Instr) : i.fields.wf = true :=
  wf_iff.mpr ⟨fields_opcodeKnown i, rfl, fields_unusedZero i, fields_tagLegal i⟩

/-! ### Rows -/

/-- The opcode of a row is that of its pattern (R73). -/
def OpRow.opcode (r : OpRow) : Byte :=
  (fieldsOf r.pattern).opc

theorem opcodes_eq : opcodeMap.map OpRow.opcode = (List.range' 1 19).map (BitVec.ofNat 8) := by
  decide

/-- The patterns of R73 set nothing but the opcode; the masks leave out the bits R71 lets the op use, and no others. -/
theorem row_fields : ∀ r ∈ opcodeMap,
    fieldsOf r.pattern = ⟨r.opcode, 0#8, 0#8, 0#8⟩ ∧
    fieldsOf r.mask = ⟨0xFF#8, ~~~usedA r.opcode, ~~~usedB r.opcode, 0xFF#8⟩ := by
  decide

/-- The fields have the row's opcode, RSV 0 and no bit set that the op does not use. -/
def OpRow.Admits (r : OpRow) (f : OpFields) : Prop :=
  f.opc = r.opcode ∧ f.rsv = 0#8 ∧ f.unusedZero = true

theorem matchesWord_iff (hr : r ∈ opcodeMap) : r.matchesWord w = true ↔ r.Admits (fieldsOf w) := by
  obtain ⟨hpattern, hmask⟩ := row_fields r hr
  rw [OpRow.matchesWord, beq_iff_eq, ← fieldsOf_inj, fieldsOf_and, hpattern, hmask]
  simp only [OpRow.Admits, unusedZero_iff, OpFields.mk.injEq, and_all_ones]
  refine and_congr_right fun hopc => ?_
  rw [hopc, ← and_assoc, and_comm]

theorem row_of_opcode_unique (hr : r ∈ opcodeMap) (hr' : r' ∈ opcodeMap) (h : r.opcode = r'.opcode) : r = r' :=
  List.inj_on_of_nodup_map (by rw [opcodes_eq]; decide) hr hr' h

/-- The map finds the one row that admits the word's fields (R223). -/
theorem find?_row_eq_some_iff :
    opcodeMap.find? (·.matchesWord w) = some r ↔ r ∈ opcodeMap ∧ r.Admits (fieldsOf w) := by
  have found {x : OpRow} (h : opcodeMap.find? (·.matchesWord w) = some x) :
      x ∈ opcodeMap ∧ x.Admits (fieldsOf w) :=
    have hx := List.mem_of_find?_eq_some h
    ⟨hx, (matchesWord_iff hx).mp (List.find?_some (p := fun x : OpRow => x.matchesWord w) h)⟩
  refine ⟨found, fun ⟨hr, hadm⟩ => ?_⟩
  have hsome : (opcodeMap.find? (·.matchesWord w)).isSome = true :=
    List.find?_isSome.mpr ⟨r, hr, (matchesWord_iff hr).mpr hadm⟩
  obtain ⟨x, hx⟩ := Option.isSome_iff_exists.mp hsome
  obtain ⟨hmem, hopc, -⟩ := found hx
  rw [hx, row_of_opcode_unique hmem hr (hopc.symm.trans hadm.1)]

theorem decode_eq_ok_iff :
    decode w = .ok i ↔ ∃ r ∈ opcodeMap, r.Admits (fieldsOf w) ∧ r.operands (fieldsOf w) = some i := by
  simp only [← and_assoc, ← find?_row_eq_some_iff]
  unfold decode
  cases opcodeMap.find? (·.matchesWord w) with
  | none => simp
  | some r => cases h : r.operands (fieldsOf w) <;> simp [h]

/-! ### What a row reads -/

theorem ofByte_eq_some_iff {v : Byte} {tag : ReportTag} : ReportTag.ofByte v = some tag ↔ tag.code = v := by
  constructor
  · unfold ReportTag.ofByte
    split_ifs <;> rintro ⟨⟩ <;> exact Eq.symm ‹_›
  · rintro rfl
    cases tag <;> rfl

/-- The six tags the check lets through are the six REPORT has (R71, R86). -/
theorem ofByte_isSome {a b rsv : Byte} (h : OpFields.tagLegal ⟨0x01#8, a, b, rsv⟩ = true) :
    (ReportTag.ofByte a).isSome = true := by
  have legal : ∀ v ∈ [0x01#8, 0x05#8, 0x06#8, 0x07#8, 0x08#8, 0x09#8], (ReportTag.ofByte v).isSome = true := by decide
  exact legal a (List.contains_iff_mem.mp h)

/-- Of fields that it admits the row reads the op with these fields, and it reads one unless the tag is illegal (R71). -/
def OpRow.ReadsFields (r : OpRow) : Prop :=
  ∀ f, r.Admits f →
    (∀ i, r.operands f = some i → i.fields = f) ∧ (f.tagLegal = true → (r.operands f).isSome = true)

/-- A row whose operands are legal at every value that the unused bits leave. -/
theorem total_readsFields {m : String} {pattern mask : Word} {g : OpFields → Instr} (o : Byte)
    (ho : (fieldsOf pattern).opc = o)
    (h : ∀ a b, a &&& ~~~usedA o = 0#8 → b &&& ~~~usedB o = 0#8 → (g ⟨o, a, b, 0#8⟩).fields = ⟨o, a, b, 0#8⟩) :
    OpRow.ReadsFields ⟨m, pattern, mask, fun f => some (g f)⟩ := by
  rintro ⟨opc, a, b, rsv⟩ ⟨hopc, rfl, hunused⟩
  obtain rfl : opc = o := hopc.trans ho
  obtain ⟨ha, hb⟩ := unusedZero_iff.mp hunused
  refine ⟨?_, fun _ => rfl⟩
  rintro i ⟨⟩
  exact h a b ha hb

/-- A row without operands. -/
theorem fixed_readsFields {m : String} {pattern mask : Word} (i : Instr) (hi : fieldsOf pattern = i.fields)
    (hused : usedA i.opcode = 0#8 ∧ usedB i.opcode = 0#8 := by decide)
    (hzero : i.fieldA = 0#8 ∧ i.fieldB = 0#8 := by decide) :
    OpRow.ReadsFields ⟨m, pattern, mask, fun _ => some i⟩ := by
  refine total_readsFields i.opcode (congrArg OpFields.opc hi) fun a b ha hb => ?_
  obtain rfl : a = 0#8 := by simpa [hused] using ha
  obtain rfl : b = 0#8 := by simpa [hused] using hb
  simp [Instr.fields, hzero]

theorem report_readsFields {m : String} {mask : Word} :
    OpRow.ReadsFields ⟨m, 0x00000001#32, mask, fun f => (ReportTag.ofByte f.a).map Instr.report⟩ := by
  rintro ⟨opc, a, b, rsv⟩ ⟨hopc, rfl, hunused⟩
  obtain rfl : opc = 0x01#8 := hopc
  obtain ⟨-, hb⟩ := unusedZero_iff.mp hunused
  obtain rfl : b = 0#8 := by simpa [usedB] using hb
  refine ⟨fun i hi => ?_, fun hlegal => ?_⟩
  · obtain ⟨tag, htag, rfl⟩ := Option.map_eq_some_iff.mp hi
    obtain rfl := ofByte_eq_some_iff.mp htag
    rfl
  · rw [Option.isSome_map]
    exact ofByte_isSome hlegal

theorem probe_readsFields {m : String} {mask : Word} :
    OpRow.ReadsFields ⟨m, 0x00000002#32, mask, fun f => some (.probe (f.a.setWidth 7))⟩ := by
  refine total_readsFields 0x02#8 rfl fun a b ha hb => ?_
  have ha' : (a.setWidth 7).setWidth 8 = a := (and_not_low_eq_zero_iff 7 a).mp (by simpa [usedA] using ha)
  obtain rfl : b = 0#8 := by simpa [usedB] using hb
  simp [Instr.fields, Instr.fieldA, Instr.fieldB, Instr.opcode, ha']

theorem readReg16_readsFields {m : String} {mask : Word} :
    OpRow.ReadsFields
      ⟨m, 0x00000005#32, mask, fun f => some (.readReg16 f.a (Slot.ofBits (f.b.setWidth 2)))⟩ := by
  refine total_readsFields 0x05#8 rfl fun a b _ hb => ?_
  have hb' : (b.setWidth 2).setWidth 8 = b := (and_not_low_eq_zero_iff 2 b).mp (by simpa [usedB] using hb)
  simp [Instr.fields, Instr.fieldA, Instr.fieldB, Instr.opcode, hb']

theorem jmp_readsFields {m : String} {mask : Word} :
    OpRow.ReadsFields ⟨m, 0x00000012#32, mask, fun f => some (.jmp f.a)⟩ := by
  refine total_readsFields 0x12#8 rfl fun a b _ hb => ?_
  obtain rfl : b = 0#8 := by simpa [usedB] using hb
  rfl

theorem opcodeMap_readsFields : ∀ r ∈ opcodeMap, r.ReadsFields := by
  simp only [opcodeMap, rowsStartup, rowsMeasurement, rowsCompensation, List.cons_append, List.nil_append,
    List.forall_mem_cons]
  exact ⟨report_readsFields, probe_readsFields, fixed_readsFields .scan rfl, fixed_readsFields .readId rfl,
    readReg16_readsFields, fixed_readsFields .commitCalib rfl, fixed_readsFields .readCalib rfl,
    fixed_readsFields .trigger rfl, fixed_readsFields .waitConv rfl, fixed_readsFields .readMsb rfl,
    fixed_readsFields .readLsb rfl, fixed_readsFields .measure rfl, fixed_readsFields .cmpX1 rfl,
    fixed_readsFields .cmpX2 rfl, fixed_readsFields .cmpB5 rfl, fixed_readsFields .cmpT rfl,
    fixed_readsFields .compensate rfl, jmp_readsFields, fixed_readsFields .halt rfl, nofun⟩

/-! ### Decode and encode -/

/-- The rows stand in the order of their opcodes, so the row of an op stands at its opcode; it reads the op back from its
fields. -/
theorem row_of_op (i : Instr) :
    ∃ r, opcodeMap[i.opcode.toNat - 1]? = some r ∧ r.opcode = i.opcode ∧ r.operands i.fields = some i := by
  cases i with
  | report tag => exact ⟨_, rfl, rfl, congrArg (Option.map Instr.report) (ofByte_eq_some_iff.mpr rfl)⟩
  | probe a => exact ⟨_, rfl, rfl, by simp [Instr.fields, Instr.fieldA]⟩
  | readReg16 p slot => exact ⟨_, rfl, rfl, by cases slot <;> rfl⟩
  | _ => exact ⟨_, rfl, rfl, rfl⟩

/-- Settles O5: the row of an op admits the fields of its word, it is the only one that does, and it reads the op from them. -/
theorem decodeOfEncodeIsTheOp : Obligations.DecodeOfEncodeIsTheOp := by
  intro i
  obtain ⟨r, hr, hopc, hreads⟩ := row_of_op i
  refine decode_eq_ok_iff.mpr ⟨r, List.mem_of_getElem? hr, ?_, ?_⟩ <;> rw [fieldsOf_encode]
  · exact ⟨hopc.symm, rfl, fields_unusedZero i⟩
  · exact hreads

/-- Settles O6: the row that reads the op admits the word's fields, so these are the op's, and a word is its fields. -/
theorem encodeOfDecodeIsTheWord : Obligations.EncodeOfDecodeIsTheWord := by
  intro w i h
  obtain ⟨r, hr, hadm, hreads⟩ := decode_eq_ok_iff.mp h
  exact encode_eq_iff.mpr ((opcodeMap_readsFields r hr (fieldsOf w) hadm).1 i hreads)

/-- The opcodes of R74 that are not unknown have a row. -/
theorem exists_row_of_opcodeKnown (h : f.opcodeKnown = true) : ∃ r ∈ opcodeMap, r.opcode = f.opc := by
  have hbounds : 1 ≤ f.opc.toNat ∧ f.opc.toNat ≤ 19 := by
    simpa [OpFields.opcodeKnown, BitVec.le_def] using h
  refine List.mem_map.mp ?_
  rw [opcodes_eq]
  exact List.mem_map.mpr ⟨f.opc.toNat, List.mem_range'_1.mpr (by omega), BitVec.ofNat_toNat _ _⟩

/-- Settles O7: a legal word is an op's, whose fields pass (`fields_wf`); and fields that pass are admitted by the row of their
opcode, which reads an op since the tag is legal. -/
theorem decodeAcceptsExactlyLegalFields : Obligations.DecodeAcceptsExactlyLegalFields := by
  intro w
  constructor
  · rintro ⟨i, h⟩
    rw [← encodeOfDecodeIsTheWord w i h, fieldsOf_encode]
    exact fields_wf i
  · intro hwf
    obtain ⟨hopc, hrsv, hunused, htag⟩ := wf_iff.mp hwf
    obtain ⟨r, hr, hrow⟩ := exists_row_of_opcodeKnown hopc
    have hadm : r.Admits (fieldsOf w) := ⟨hrow.symm, hrsv, hunused⟩
    obtain ⟨i, hi⟩ := Option.isSome_iff_exists.mp ((opcodeMap_readsFields r hr (fieldsOf w) hadm).2 htag)
    exact ⟨i, decode_eq_ok_iff.mpr ⟨r, hr, hadm, hi⟩⟩

/-- Settles O8, by evaluation of the decoder. -/
theorem workedEncodingsDecode : Obligations.WorkedEncodingsDecode := by
  unfold Obligations.WorkedEncodingsDecode
  decide

end Sys2Proof
end

section
/-! What a step appends to the trace (45_sequencer.md R221): at most one interaction, first, and then report records; a transaction
has the response its request asks for (30_encoding.md R77, R78). -/

namespace Sys2Proof.Machine

variable {s t : State} {i : Instr} {q : Option BusReq} {P : BusReq → Prop}

/-- From `s` to `t` the trace grows as R221 lets one step append, by transactions whose requests meet `P` and whose responses
are those R77 lets the requests have. -/
def AppendsStepEvents (P : BusReq → Prop) (s t : State) : Prop :=
  ∃ es, t.trace = s.trace ++ es ∧ stepEventsShape es = true ∧
    ∀ req resp, .bus req resp ∈ es → admissible req resp = true ∧ P req

theorem stepEventsShape_reports (rs : List Record) : stepEventsShape (rs.map .report) = true := by
  cases rs with
  | nil => rfl
  | cons r rs => simp [stepEventsShape, Event.isReport]

theorem stepEventsShape_interaction {e : Event} (he : e.isInteraction = true) (rs : List Record) :
    stepEventsShape (e :: rs.map .report) = true := by
  simp [stepEventsShape, he, Event.isReport]

theorem OnlyReports.appendsStepEvents (h : OnlyReports s t) : AppendsStepEvents P s t := by
  obtain ⟨rs, htrace, -⟩ := h
  exact ⟨_, htrace, stepEventsShape_reports rs, by simp⟩

/-- No op reads more bytes than a turn of the bus offers (R78). -/
theorem busRequest_rlen_le {req : BusReq} (h : busRequest i s = some req) : req.rlen ≤ 2 := by
  have htable := transactionOf_of_busRequest h
  cases i with
  | probe _ | readId | readReg16 _ _ | trigger | readMsb | readLsb => cases htable; simp
  | scan => obtain ⟨a, rfl⟩ := htable; simp
  | readCalib => obtain ⟨p, -, rfl⟩ := htable; simp
  | measure => rcases htable with rfl | rfl | rfl <;> simp
  | report _ | commitCalib | waitConv | cmpX1 | cmpX2 | cmpB5 | cmpT | compensate | jmp _ | halt => cases htable

/-- A transaction appends its request with a response that the request may have (R77, R107). -/
theorem Answered.trace_admissible {req : BusReq} {a : (Byte × Byte) ⊕ ErrKind} {u : State} (h : Answered req s a u)
    (hlen : req.rlen ≤ 2) : ∃ resp, u.trace = s.trace ++ [.bus req resp] ∧ admissible req resp = true := by
  cases h with
  | ack _ => exact ⟨_, rfl, okResp_admissible req _ _ hlen⟩
  | nack _ => exact ⟨_, rfl, rfl⟩

theorem Interacts.appendsStepEvents (h : Interacts q s t) (hP : ∀ req, q = some req → req.rlen ≤ 2 ∧ P req) :
    AppendsStepEvents P s t := by
  cases h with
  | internal h => exact h.appendsStepEvents
  | timer e he h =>
    obtain ⟨rs, htrace, -⟩ := h
    refine ⟨e :: rs.map .report, by simpa using htrace, ?_⟩
    rcases he with rfl | rfl <;> exact ⟨stepEventsShape_interaction rfl rs, by simp⟩
  | @answered req a u hq ha h =>
    obtain ⟨hlen, hreq⟩ := hP req hq
    obtain ⟨rs, htrace, -⟩ := h
    obtain ⟨resp, hu, hadm⟩ := ha.trace_admissible hlen
    refine ⟨.bus req resp :: rs.map .report, by simp [htrace, hu], stepEventsShape_interaction rfl rs, ?_⟩
    intro req' resp' hmem
    obtain ⟨rfl, rfl⟩ : req' = req ∧ resp' = resp := by simpa using hmem
    exact ⟨hadm, hreq⟩
  | waiting _ hw => exact ⟨[], by simp [hw.ports.1], rfl, by simp⟩

theorem atBoundary_appendsStepEvents : AppendsStepEvents P (atBoundary s) t ↔ AppendsStepEvents P s t := by
  simp only [AppendsStepEvents, atBoundary_trace]

/-- Settles O14, by the cases of a step that is no reset: a halted block and an illegal fetch have no interaction, and an op has
the one `exec_interacts` gives it. -/
theorem stepAppendsOneInteractionThenRecords : Obligations.StepAppendsOneInteractionThenRecords := by
  intro s t h hnoreset
  suffices AppendsStepEvents (fun req => ∃ i, fetch s = .ok i ∧ busRequest i (atBoundary s) = some req) (atBoundary s) t from
    atBoundary_appendsStepEvents.mp this
  rcases step_cases s with
    ⟨-, hs⟩ | ⟨-, hreset, -⟩ | ⟨-, -, -, hs⟩ | ⟨-, -, -, ⟨info, -, hs⟩ | ⟨i, hf, hs⟩⟩
  · cases hs.symm.trans h
  · exact absurd (by simpa [resetDue] using hreset) hnoreset
  · cases hs.symm.trans h
    exact (onlyReports_of_eq rfl rfl).appendsStepEvents
  · cases hs.symm.trans h
    exact (raiseFault_onlyReports _ _ _).appendsStepEvents
  · exact (exec_interacts (hs.symm.trans h)).appendsStepEvents fun req hq => ⟨busRequest_rlen_le hq, i, hf, hq⟩

end Sys2Proof.Machine
end

section
/-! A step whose answer has not come is not taken (40_transport.md R111; 43_measurement.md R163; 45_sequencer.md R224). A step that
needs the bus is one `transact`, of the request `busRequest` names, and one that needs the timer's signal is one `awaitTimer`;
without an answer each leaves the block as it is (log 4, 20). -/

namespace Sys2Proof.Machine

variable {s : State} {i : Instr} {req : BusReq}

/-! ### A step that needs the bus -/

/-- This result from `s` is one transaction of `req`, with some continuation for either answer. -/
def IsTransaction (req : BusReq) (s : State) (r : Result) : Prop :=
  ∃ onOk onErr, r = transact req s onOk onErr

/-- Whatever would follow the answer, a transaction without one leaves its request outstanding (R111). -/
theorem IsTransaction.unanswered {r : Result} (h : IsTransaction req s r) (ha : answerReady s = false) :
    r = .next { s with busReq := some req, busIn := s.busIn.tail } := by
  obtain ⟨onOk, onErr, rfl⟩ := h
  cases hb : s.busIn with
  | nil => exact transact_silent hb
  | cons turn rest =>
    cases turn with
    | hold => exact transact_hold hb
    | ack _ _ | nack _ => simp [answerReady, hb] at ha

theorem lsbPhase_isTransaction {op : Byte} {fin : State → State} (hraw : s.raw.isSome = true) :
    IsTransaction (readReq regLsb 1) s (lsbPhase op fin s) := by
  obtain ⟨raw, hraw⟩ := Option.isSome_iff_exists.mp hraw
  simp only [lsbPhase, hraw]
  exact ⟨_, _, rfl⟩

theorem execReadCalib_isTransaction (h : busRequest .readCalib s = some req) :
    IsTransaction req s (execReadCalib s) := by
  obtain ⟨hguard, hmap⟩ := Option.ite_none_left_eq_some.mp h
  obtain ⟨slot, hslot, rfl⟩ := Option.map_eq_some_iff.mp hmap
  simp only [execReadCalib, if_neg hguard, hslot]
  exact ⟨_, _, rfl⟩

theorem execMeasure_isTransaction (h : busRequest .measure s = some req) :
    IsTransaction req s (execMeasure s) := by
  simp only [busRequest] at h
  unfold execMeasure
  split at h
  · rw [if_pos ‹_›]
    split at h
    · cases h
      simp only [measureOn, ‹s.measState = .readMsb›]
      exact ⟨_, _, rfl⟩
    · obtain ⟨⟨hm, hraw⟩, ⟨⟩⟩ := Option.ite_none_right_eq_some.mp h
      simp only [measureOn, hm]
      exact lsbPhase_isTransaction hraw
  · obtain ⟨hm, ⟨⟩⟩ := Option.ite_none_right_eq_some.mp h
    rw [if_neg ‹_›, if_pos hm]
    exact ⟨_, _, rfl⟩

/-- An op that asks the bus for `req` is one transaction of it (R59, R106). -/
theorem exec_isTransaction (h : busRequest i s = some req) : IsTransaction req s (exec i s) := by
  cases i with
  | probe _ | scan | readId | readReg16 _ _ =>
    cases h
    simp only [exec, execProbe, execScan, execReadId, execReadReg16]
    exact ⟨_, _, rfl⟩
  | readCalib => exact execReadCalib_isTransaction h
  | trigger | readMsb =>
    obtain ⟨hm, ⟨⟩⟩ := Option.ite_none_right_eq_some.mp h
    exact ⟨_, _, if_pos hm⟩
  | readLsb =>
    obtain ⟨⟨hm, hraw⟩, ⟨⟩⟩ := Option.ite_none_right_eq_some.mp h
    simp only [exec, execReadLsb, if_pos hm]
    exact lsbPhase_isTransaction hraw
  | measure => exact execMeasure_isTransaction h
  | report _ | commitCalib | waitConv | cmpX1 | cmpX2 | cmpB5 | cmpT | compensate | jmp _ | halt => cases h

/-! ### A step that needs the timer -/

theorem awaitTimer_no_signal {k : State → State} (h : s.timerSignal = false) : awaitTimer s k = .next s := by
  simp [awaitTimer, h]

/-- The TimerAwait step of an op is one `awaitTimer` (R163, R172). -/
theorem exec_awaitsTimer (h : awaitsTimer i s = true) : ∃ k, exec i s = awaitTimer s k := by
  cases i with
  | waitConv => exact ⟨_, if_pos h⟩
  | measure =>
    obtain ⟨hb, hm⟩ : s.busy = true ∧ s.measState = .converting := by simpa [awaitsTimer] using h
    simp only [exec, execMeasure, if_pos hb, measureOn, hm]
    exact ⟨_, rfl⟩
  | report _ | probe _ | scan | readId | readReg16 _ _ | commitCalib | readCalib | trigger | readMsb | readLsb
  | cmpX1 | cmpX2 | cmpB5 | cmpT | compensate | jmp _ | halt => cases h

/-! ### The step -/

@[simp] theorem atBoundary_busIn (s : State) : (atBoundary s).busIn = s.busIn := by
  rw [atBoundary_eq]

@[simp] theorem answerReady_atBoundary (s : State) : answerReady (atBoundary s) = answerReady s := by
  simp only [answerReady, atBoundary_busIn]

theorem step_of_fetched (hc : configAccepted s.cfg = true) (hr : resetDue s = false) (hrun : s.runState = .running)
    (hf : fetch s = .ok i) : step s = exec i (atBoundary s) := by
  simp [step, hc, hr, hrun, fetchAndExec, hf]

/-- Settles O12: the step is the op's transaction, or its `awaitTimer`, at the boundary, and neither has its answer. -/
theorem unansweredStepIsNotTaken : Obligations.UnansweredStepIsNotTaken := by
  intro s i hwf hticks hrun hf
  have hr : resetDue s = false := beq_eq_false_iff_ne.mpr hticks
  rw [step_of_fetched hwf hr hrun hf]
  refine ⟨fun q hq ha => ?_, fun hawait hsignal => ?_⟩
  · have hunanswered := (exec_isTransaction hq).unanswered (by rwa [answerReady_atBoundary])
    rwa [atBoundary_busIn] at hunanswered
  · obtain ⟨k, hk⟩ := exec_awaitsTimer hawait
    rw [hk, awaitTimer_no_signal hsignal]

end Sys2Proof.Machine
end

section
/-! The scanner (41_scanner.md R120 to R126). PROBE and an answered step of SCAN both end in the state `State.afterProbe` gives,
and SCAN differs from it in `upc`, `busy` and `scan_addr` only. -/

namespace Sys2Proof.Machine

variable {s u v : State} {turn : BusTurn} {rest : List BusTurn} {ack : Bool} {resp : BusResp}

/-! ### One answered probe (R122) -/

/-- This turn of the bus answers a probe: whether the write succeeded, and its response. -/
inductive AnswersProbe : BusTurn → Bool → BusResp → Prop
  | ack (b0 b1 : Byte) : AnswersProbe (.ack b0 b1) true (.ok [])
  | nack (k : ErrKind) : AnswersProbe (.nack k) false (.err k)

theorem exists_answersProbe (h : turn ≠ .hold) : ∃ ack resp, AnswersProbe turn ack resp := by
  cases turn with
  | ack b0 b1 => exact ⟨_, _, .ack b0 b1⟩
  | nack k => exact ⟨_, _, .nack k⟩
  | hold => exact absurd rfl h

/-- An address is reported exactly when its write succeeded (R122). -/
theorem probed_trace (s : State) (a : BusAddr) (ack : Bool) :
    (s.probed a ack).trace = s.trace ++ if ack then [.report (.found a)] else [] := by
  cases ack with
  | true => rfl
  | false => exact (List.append_nil _).symm

/-- The state after the answered probe of `a`, before the op goes on. -/
def State.afterProbe (s : State) (a : BusAddr) (ack : Bool) (resp : BusResp) (rest : List BusTurn) : State :=
  { s with
    busIn := rest, busReq := none, probeAck := ack
    trace := s.trace ++ .bus (probeReq s.cfg a) resp :: if ack then [.report (.found a)] else [] }

theorem answered_probed (s : State) (a : BusAddr) (ack : Bool) (resp : BusResp) (rest : List BusTurn) :
    (s.answered (probeReq s.cfg a) resp rest).probed a ack = s.afterProbe a ack resp rest := by
  rw [probed_eq, probed_trace, answered_trace, List.append_assoc]
  rfl

/-- A probe whose continuation asks only whether the write succeeded goes on from its answer. -/
theorem transact_answersProbe {a : BusAddr} {k : Bool → State → State} (hturn : AnswersProbe turn ack resp)
    (hbus : s.busIn = turn :: rest) :
    transact (probeReq s.cfg a) s (fun _ _ => k true) (fun _ => k false) =
      .next (k ack (s.answered (probeReq s.cfg a) resp rest)) := by
  cases hturn with
  | ack b0 b1 => exact transact_ack hbus
  | nack e => exact transact_nack hbus

theorem exec_probe_answered (a : BusAddr) (hturn : AnswersProbe turn ack resp) (hbus : s.busIn = turn :: rest) :
    exec (.probe a) s = .next (s.afterProbe a ack resp rest).done := by
  rw [← answered_probed]
  exact transact_answersProbe (k := fun ack u => (u.probed a ack).done) hturn hbus

/-- Settles O26: `exec_probe_answered` for either answer. -/
theorem probeReportsExactlyTheFound : Obligations.ProbeReportsExactlyTheFound :=
  fun a _ _ => ⟨fun b0 b1 hbus => exec_probe_answered a (.ack b0 b1) hbus,
    fun k hbus => exec_probe_answered a (.nack k) hbus⟩

/-! ### One answered step of SCAN (R124) -/

/-- SCAN's next step probes `a`: the first address in its first step, `scan_addr` after it (R124). -/
def State.ScansNext (s : State) (a : BusAddr) : Prop :=
  s.busy = false ∧ a = 0#7 ∨ s.busy = true ∧ s.scanAddr.toNat = a.toNat

theorem State.ScansNext.scanTarget_eq {a : BusAddr} (h : s.ScansNext a) : s.scanTarget = a.setWidth 8 := by
  rcases h with ⟨hb, rfl⟩ | ⟨hb, ha⟩
  · simp [State.scanTarget, hb, scanFirst]
  · simp only [State.scanTarget, hb, if_true]
    bv_omega

/-- The state of a SCAN that has probed the first `n` addresses and whose op word is at `upc`; `s` gives the registers SCAN and
PROBE share. -/
def State.scannedTo (s : State) (upc : Upc) (n : Nat) : State :=
  { s with
    scanAddr := BitVec.ofNat 8 n, busy := decide (n ≠ 128), upc := if n = 128 then upc + 1#9 else upc }

/-- A step of SCAN ends the op exactly at the last address (R124). -/
theorem scanned_setWidth (s : State) (a : BusAddr) (ack : Bool) :
    s.scanned (a.setWidth 8) ack = (s.probed a ack).scannedTo s.upc (a.toNat + 1) := by
  by_cases ha : a = 127#7
  · subst ha
    rw [show BitVec.setWidth 8 127#7 = scanLast from rfl, scanned_last, probed_eq]
    rfl
  · have hlast : a.setWidth 8 ≠ scanLast := by unfold scanLast; bv_omega
    have hmore : a.toNat + 1 ≠ 128 := by bv_omega
    have haddr : a.setWidth 8 + 1#8 = BitVec.ofNat 8 (a.toNat + 1) := by bv_omega
    have hupc : (s.probed a ack).upc = s.upc := by rw [probed_eq]
    rw [scanned_of_ne_last hlast, haddr]
    simp [State.scannedTo, hmore, hupc]

theorem exec_scan_answered {a : BusAddr} (hnext : s.ScansNext a) (hturn : AnswersProbe turn ack resp)
    (hbus : s.busIn = turn :: rest) :
    exec .scan s = .next ((s.afterProbe a ack resp rest).scannedTo s.upc (a.toNat + 1)) := by
  have hscan : exec .scan s = transact (probeReq s.cfg a) s (fun _ _ u => u.scanned (a.setWidth 8) true)
      (fun _ u => u.scanned (a.setWidth 8) false) := by
    simp [exec, execScan, hnext.scanTarget_eq]
  rw [hscan, transact_answersProbe (k := fun ack u => u.scanned (a.setWidth 8) ack) hturn hbus, scanned_setWidth,
    answered_probed, answered_upc]

/-- Settles O27: `exec_scan_answered` for either answer. -/
theorem scanStepProbesOneAddress : Obligations.ScanStepProbesOneAddress := by
  intro a s rest ack resp hnext hanswer
  obtain ⟨turn, hturn, hbus⟩ : ∃ turn, AnswersProbe turn ack resp ∧ s.busIn = turn :: rest := by
    rcases hanswer with ⟨rfl, rfl, b0, b1, hbus⟩ | ⟨rfl, k, rfl, hbus⟩
    · exact ⟨_, .ack b0 b1, hbus⟩
    · exact ⟨_, .nack k, hbus⟩
  rw [exec_scan_answered hnext hturn hbus]
  simp [State.scannedTo, State.afterProbe, probeReq]

/-! ### The whole scan (R125) -/

/-- `v` is `u` but for the three registers in which SCAN and PROBE differ on the way (R125). -/
def SameButScan (u v : State) : Prop :=
  v = { u with upc := v.upc, busy := v.busy, scanAddr := v.scanAddr }

theorem SameButScan.scannedTo (h : SameButScan u v) (a : BusAddr) (ack : Bool) (resp : BusResp)
    (rest : List BusTurn) (upc : Upc) (n : Nat) :
    (v.afterProbe a ack resp rest).scannedTo upc n = (u.afterProbe a ack resp rest).done.scannedTo upc n := by
  rw [h]
  rfl

theorem scannedTo_sameButScan (u : State) (upc : Upc) (n : Nat) : SameButScan u (u.scannedTo upc n) := rfl

theorem scannedTo_scansNext {n : Nat} (hn : n < 128) (u : State) (upc : Upc) :
    (u.scannedTo upc n).ScansNext (BitVec.ofNat 7 n) := by
  refine .inr ⟨decide_eq_true (by omega), ?_⟩
  simp only [State.scannedTo, BitVec.toNat_ofNat]
  omega

theorem scannedTo_end (h : s.busy = false) (upc : Upc) :
    s.scannedTo upc 128 = { s with upc := upc + 1#9, scanAddr := 128#8 } := by
  simp [State.scannedTo, h]

/-- One answered step of SCAN keeps step with one answered PROBE (R124, R125). -/
theorem exec_scan_keeps_step {n : Nat} (hn : n < 128) (huv : SameButScan u v)
    (hnext : v.ScansNext (BitVec.ofNat 7 n)) (hturn : turn ≠ .hold) (hbus : u.busIn = turn :: rest) :
    ∃ w, exec (.probe (BitVec.ofNat 7 n)) u = .next w ∧ exec .scan v = .next (w.scannedTo v.upc (n + 1)) ∧
      w.busIn = rest ∧ w.busy = false := by
  obtain ⟨ack, resp, ha⟩ := exists_answersProbe hturn
  have hbus' : v.busIn = turn :: rest := by rw [huv]; exact hbus
  refine ⟨_, exec_probe_answered _ ha hbus, ?_, rfl, rfl⟩
  rw [exec_scan_answered hnext ha hbus', huv.scannedTo, BitVec.toNat_ofNat, Nat.mod_eq_of_lt hn]

/-- The probes of the addresses from `n` on. -/
def probesFrom (n len : Nat) : List Instr :=
  (List.range' n len).map fun a => .probe (BitVec.ofNat 7 a)

/-- Once begun, SCAN does what the probes of the addresses still to come do (R125). -/
theorem scan_completes (turns : List BusTurn) {n : Nat} (hn : n + turns.length = 128) (upc : Upc)
    (hturns : .hold ∉ turns) (hbus : u.busIn = turns ++ rest) (hbusy : u.busy = false) :
    ∃ w, execSeq (probesFrom n turns.length) u = .next w ∧
      execTimes .scan turns.length (u.scannedTo upc n) = .next (w.scannedTo upc 128) ∧ w.busy = false := by
  induction turns generalizing n u with
  | nil => exact ⟨u, rfl, by rw [show n = 128 from hn]; rfl, hbusy⟩
  | cons turn turns ih =>
    obtain ⟨hturn, hturns⟩ := List.ne_and_not_mem_of_not_mem_cons hturns
    rw [List.length_cons] at hn
    have hlt : n < 128 := by omega
    obtain ⟨w, hprobe, hscan, hrest, hidle⟩ := exec_scan_keeps_step hlt (scannedTo_sameButScan u upc n)
      (scannedTo_scansNext hlt u upc) hturn.symm hbus
    have hupc : (u.scannedTo upc n).upc = upc := if_neg (by omega)
    obtain ⟨x, hprobes, hscans, hxidle⟩ := ih (n := n + 1) (by omega) hturns hrest hidle
    refine ⟨x, ?_, ?_, hxidle⟩
    · simpa [probesFrom, List.range'_succ, execSeq, hprobe] using hprobes
    · simpa [execTimes, hscan, hupc] using hscans

/-- Settles O28: the first steps keep step, and from there `scan_completes`. -/
theorem scanIsThe128Probes : Obligations.ScanIsThe128Probes := by
  intro s turns rest hidle hlen hturns hbus
  obtain ⟨turn, turns, rfl⟩ := List.exists_cons_of_length_eq_add_one hlen
  obtain ⟨hturn, hturns⟩ := List.ne_and_not_mem_of_not_mem_cons hturns
  obtain ⟨w, hprobe, hscan, hrest, hwidle⟩ := exec_scan_keeps_step (n := 0) (v := s) (by decide) rfl
    (.inl ⟨hidle, rfl⟩) hturn.symm hbus
  have hlen' : turns.length = 127 := Nat.succ.inj hlen
  obtain ⟨x, hprobes, hscans, hxidle⟩ := scan_completes turns (n := 1) (by omega) s.upc hturns hrest hwidle
  rw [hlen'] at hprobes hscans
  refine ⟨x, ?_, ?_⟩
  · rw [List.range_eq_range', List.range'_succ, List.map_cons, execSeq, hprobe]
    exact hprobes
  · rw [execTimes, hscan]
    exact hscans.trans (congrArg _ (scannedTo_end hxidle s.upc))

end Sys2Proof.Machine
end

section
/-! PROBE_BYTE (41_scanner.md R123): no op but a probe reads it, and a probe only writes it. Each op commutes with forgetting the
bytes that probes wrote; what is left of the state is the same for every PROBE_BYTE. -/

namespace Sys2Proof.Machine

variable {t : State} {b : Byte}

/-! ### Forgetting the bytes of the probes -/

/-- The state with PROBE_BYTE `b`, and without the bytes that probes wrote in its trace and its outstanding request. -/
def State.forgetProbes (b : Byte) (s : State) : State :=
  { s.withProbeByte b with trace := s.trace.map Event.eraseProbe, busReq := s.busReq.map BusReq.eraseProbe }

/-- What a step answers, the next state changed by `f`. -/
def mapNext (f : State → State) : Result → Result
  | .next t => .next (f t)
  | .fault r => .fault r
  | .refused r => .refused r

@[simp] theorem mapNext_next (f : State → State) (t : State) : mapNext f (.next t) = .next (f t) := rfl

theorem eq_next_of_mapNext_eq {f : State → State} {r : Result} (h : mapNext f r = .next t) :
    ∃ u, r = .next u ∧ f u = t := by
  cases r with
  | next u => cases h; exact ⟨u, rfl, rfl⟩
  | fault r => cases h
  | refused r => cases h

theorem mapNext_ite (f : State → State) (c : Prop) [Decidable c] (r r' : Result) :
    mapNext f (if c then r else r') = if c then mapNext f r else mapNext f r' := apply_ite ..

theorem eraseProbe_rlen (req : BusReq) : req.eraseProbe.rlen = req.rlen := by
  unfold BusReq.eraseProbe
  split <;> rfl

theorem eraseProbe_probeReq (c : Config) (a : BusAddr) : (probeReq c a).eraseProbe = ⟨.write, a, [], 0⟩ := rfl

/-! ### The shared operations commute with it -/

@[simp] theorem forgetProbes_done (s : State) : s.done.forgetProbes b = (s.forgetProbes b).done := rfl

theorem forgetProbes_log (s : State) (es : List Event) :
    (s.log es).forgetProbes b = (s.forgetProbes b).log (es.map Event.eraseProbe) := by
  simp [State.forgetProbes, State.withProbeByte, State.log]

@[simp] theorem forgetProbes_emit (s : State) (r : Record) : (s.emit r).forgetProbes b = (s.forgetProbes b).emit r :=
  forgetProbes_log s [.report r]

theorem forgetProbes_answered (s : State) (req : BusReq) (resp : BusResp) (rest : List BusTurn) :
    (s.answered req resp rest).forgetProbes b = (s.forgetProbes b).answered req.eraseProbe resp rest :=
  congrArg (fun u : State => { u with busIn := rest, busReq := none }) (forgetProbes_log s [.bus req resp])

@[simp] theorem forgetProbes_failCycle (s : State) (c : Cause) :
    (s.failCycle c).forgetProbes b = (s.forgetProbes b).failCycle c := by
  have hemit := forgetProbes_emit (b := b) s (.cycleError c)
  unfold State.failCycle
  split
  · rw [if_pos ‹_›, ← hemit]; rfl
  · rw [if_neg ‹_›, ← hemit]; rfl

@[simp] theorem forgetProbes_raiseFault (c : Cause) (info : FaultInfo) (s : State) :
    (raiseFault c info s).forgetProbes b = raiseFault c info (s.forgetProbes b) := by
  have hpolicy : (s.forgetProbes b).cfg.failPolicy = s.cfg.failPolicy := rfl
  unfold raiseFault
  rw [hpolicy]
  split
  · rfl
  · exact forgetProbes_failCycle _ c
  all_goals rfl

@[simp] theorem forgetProbes_seqFault (op : Byte) (s : State) :
    (seqFault op s).forgetProbes b = seqFault op (s.forgetProbes b) := forgetProbes_raiseFault _ _ s

@[simp] theorem forgetProbes_divFault (op : Byte) (s : State) :
    (divFault op s).forgetProbes b = divFault op (s.forgetProbes b) := forgetProbes_raiseFault _ _ s

@[simp] theorem forgetProbes_busFault (op ptr : Byte) (k : ErrKind) (s : State) :
    (busFault op ptr k s).forgetProbes b = busFault op ptr k (s.forgetProbes b) := forgetProbes_raiseFault _ _ s

/-- A transaction commutes with it, but for the byte its request carries, when what follows either answer does. -/
theorem forgetProbes_transact {onOk : Byte → Byte → State → State} {onErr : ErrKind → State → State}
    (hok : ∀ b0 b1 u, (onOk b0 b1 u).forgetProbes b = onOk b0 b1 (u.forgetProbes b))
    (herr : ∀ k u, (onErr k u).forgetProbes b = onErr k (u.forgetProbes b)) (req : BusReq) (s : State) :
    mapNext (State.forgetProbes b) (transact req s onOk onErr) =
      transact req.eraseProbe (s.forgetProbes b) onOk onErr := by
  have hbus : (s.forgetProbes b).busIn = s.busIn := rfl
  have hresp : ∀ b0 b1, okResp req.eraseProbe b0 b1 = okResp req b0 b1 := by simp [okResp, eraseProbe_rlen]
  unfold transact
  rw [hbus]
  split
  · simp [hok, hresp, forgetProbes_answered]
  · simp [herr, forgetProbes_answered]
  · rfl
  · rfl

/-! ### Every op but a probe commutes with it -/

/-- This op, or this phase of one, commutes with forgetting the bytes of the probes: the requests it may have are no one-byte
writes, so `BusReq.eraseProbe` computes to the request itself on each. -/
def CommutesWithForget (b : Byte) (f : State → Result) : Prop :=
  ∀ s, mapNext (State.forgetProbes b) (f s) = f (s.forgetProbes b)

theorem execReport_commutes (tag : ReportTag) : CommutesWithForget b (execReport tag) := by
  intro s
  have hrec : (s.forgetProbes b).recordFor tag = s.recordFor tag := by cases tag <;> rfl
  unfold execReport reportHeld
  rw [hrec]
  split <;> simp

theorem forgetProbes_identified (s : State) (c : Byte) :
    (s.identified c).forgetProbes b = (s.forgetProbes b).identified c := by
  unfold State.identified
  split
  · exact forgetProbes_emit { s with devId := some c, idMatch := idMatches c } _
  · exact forgetProbes_emit { s with devId := some c, idMatch := idMatches c } _

theorem forgetProbes_idReadFailed (s : State) (k : ErrKind) :
    (s.idReadFailed k).forgetProbes b = (s.forgetProbes b).idReadFailed k := by
  have hmode : (s.forgetProbes b).cfg.idReadFailMode = s.cfg.idReadFailMode := rfl
  unfold State.idReadFailed
  rw [hmode]
  split
  · exact forgetProbes_busFault _ _ k s
  · exact congrArg State.done (forgetProbes_emit { s with idMatch := false } _)

theorem execReadId_commutes : CommutesWithForget b execReadId := by
  intro s
  refine forgetProbes_transact (fun c _ u => ?_) (fun k u => ?_) _ s
  · exact congrArg State.done (forgetProbes_identified u c)
  · exact forgetProbes_idReadFailed u k

theorem execReadReg16_commutes (p : Byte) (slot : Slot) : CommutesWithForget b (execReadReg16 p slot) := by
  intro s
  refine forgetProbes_transact (fun b0 b1 u => ?_) (fun k u => ?_) _ s
  · rfl
  · exact forgetProbes_busFault _ p k u

theorem execCommitCalib_commutes : CommutesWithForget b execCommitCalib := by
  intro s
  have hcal : (s.forgetProbes b).calStage = s.calStage := rfl
  unfold execCommitCalib
  rw [mapNext_ite, hcal]
  refine if_congr Iff.rfl (by simp) ?_
  split
  · rfl
  · simp

theorem forgetProbes_enterCalib (s : State) : s.enterCalib.forgetProbes b = (s.forgetProbes b).enterCalib := by
  rw [enterCalib_eq, enterCalib_eq]
  rfl

theorem forgetProbes_calibRead (s : State) (slot : Slot) (i : BitVec 3) (b0 b1 : Byte) :
    (s.calibRead slot i b0 b1).forgetProbes b = (s.forgetProbes b).calibRead slot i b0 b1 := by
  unfold State.calibRead
  rw [← forgetProbes_enterCalib]
  rfl

theorem commitAndReport_commutes : CommutesWithForget b commitAndReport := by
  intro s
  have hcal : (s.forgetProbes b).calStage = s.calStage := rfl
  unfold commitAndReport
  rw [hcal]
  split
  next cal _ => exact congrArg (Host.Outcome.next ∘ State.done) (forgetProbes_log (s.commit cal) (calibRecords cal))
  next => simp

theorem execReadCalib_commutes : CommutesWithForget b execReadCalib := by
  intro s
  have hstep : (s.forgetProbes b).calibStep = s.calibStep := rfl
  unfold execReadCalib
  rw [mapNext_ite, hstep]
  refine if_congr Iff.rfl (by simp) ?_
  split
  · refine forgetProbes_transact (fun b0 b1 u => ?_) (fun k u => ?_) _ s
    · exact forgetProbes_calibRead u _ _ b0 b1
    · rw [forgetProbes_busFault, forgetProbes_enterCalib]
  · exact commitAndReport_commutes s

section Phases

variable {op : Byte} {fin : State → State} (hfin : ∀ u, (fin u).forgetProbes b = fin (u.forgetProbes b))
include hfin

theorem triggerPhase_commutes : CommutesWithForget b (triggerPhase op fin) := by
  intro s
  refine forgetProbes_transact (fun _ _ u => ?_) (fun k u => ?_) _ s
  · exact hfin { u with rawValid := false, measState := .triggered }
  · exact forgetProbes_busFault op regCtrl k { u with rawValid := false }

theorem awaitPhase_commutes : CommutesWithForget b (awaitPhase fin) := by
  intro s
  have htake : s.takeElapsed.forgetProbes b = (s.forgetProbes b).takeElapsed :=
    congrArg (fun u : State => { u with timerWait := false, timerSignal := false }) (forgetProbes_log s [.timerElapsed])
  unfold awaitPhase awaitTimer
  rw [mapNext_ite, ← htake]
  exact if_congr Iff.rfl (congrArg _ (hfin { s.takeElapsed with measState := .readMsb })) rfl

theorem msbPhase_commutes : CommutesWithForget b (msbPhase op fin) := by
  intro s
  refine forgetProbes_transact (fun c _ u => ?_) (fun k u => ?_) _ s
  · exact hfin { u with raw := some (rawFromMsb c), measState := .readLsb }
  · exact forgetProbes_busFault op regMsb k u

theorem lsbPhase_commutes : CommutesWithForget b (lsbPhase op fin) := by
  intro s
  have hraw : (s.forgetProbes b).raw = s.raw := rfl
  unfold lsbPhase
  rw [hraw]
  split
  next => simp
  next raw _ =>
    refine forgetProbes_transact (fun c _ u => ?_) (fun k u => ?_) _ s
    · exact hfin { u with raw := some (rawWithLsb raw c), rawValid := true, measState := .complete }
    · exact forgetProbes_busFault op regLsb k u

end Phases

theorem forgetProbes_startPhase (s : State) : (startPhase s).forgetProbes b = startPhase (s.forgetProbes b) :=
  congrArg (fun u : State => { u with timerWait := true, timerSignal := false, measState := .converting })
    (forgetProbes_log s [.timerStart])

/-- The guard of an op whose precondition fails with SEQ_ERROR (R254). -/
theorem guarded_commutes {f : State → Result} {P : State → Prop} [DecidablePred P] {op : Byte}
    (hf : CommutesWithForget b f) (hP : ∀ s, P (s.forgetProbes b) ↔ P s) :
    CommutesWithForget b (fun s => if P s then f s else .next (seqFault op s)) := by
  intro s
  rw [mapNext_ite]
  exact if_congr (hP s).symm (hf s) (by simp)

theorem execTrigger_commutes : CommutesWithForget b execTrigger :=
  guarded_commutes (triggerPhase_commutes forgetProbes_done) fun _ => Iff.rfl

theorem execWaitConv_commutes : CommutesWithForget b execWaitConv := by
  intro s
  unfold execWaitConv
  rw [mapNext_ite]
  refine if_congr Iff.rfl (awaitPhase_commutes forgetProbes_done s) ?_
  rw [mapNext_ite]
  refine if_congr Iff.rfl ?_ (by simp)
  exact congrArg (Host.Outcome.next ∘ State.beginMeasure) (forgetProbes_startPhase s)

theorem execReadMsb_commutes : CommutesWithForget b execReadMsb :=
  guarded_commutes (msbPhase_commutes forgetProbes_done) fun _ => Iff.rfl

theorem execReadLsb_commutes : CommutesWithForget b execReadLsb :=
  guarded_commutes (lsbPhase_commutes forgetProbes_done) fun _ => Iff.rfl

theorem measureOn_commutes : CommutesWithForget b measureOn := by
  intro s
  have hmeas : (s.forgetProbes b).measState = s.measState := rfl
  unfold measureOn
  rw [hmeas]
  cases s.measState with
  | triggered => exact congrArg _ (forgetProbes_startPhase s)
  | converting => exact awaitPhase_commutes (fin := id) (fun _ => rfl) s
  | readMsb => exact msbPhase_commutes (fin := id) (fun _ => rfl) s
  | readLsb => exact lsbPhase_commutes forgetProbes_done s
  | idle | complete => rfl

theorem execMeasure_commutes : CommutesWithForget b execMeasure := by
  intro s
  unfold execMeasure
  rw [mapNext_ite]
  refine if_congr Iff.rfl (measureOn_commutes s) ?_
  exact guarded_commutes (P := fun s => s.measState.mayTrigger = true)
    (triggerPhase_commutes (fin := State.beginMeasure) fun _ => rfl) (fun _ => Iff.rfl) s

theorem execCmpX1_commutes : CommutesWithForget b execCmpX1 := by
  intro s
  have hraw : (s.forgetProbes b).validRaw = s.validRaw := rfl
  have hcal : (s.forgetProbes b).validCal = s.validCal := rfl
  unfold execCmpX1
  rw [hraw, hcal]
  split
  · rfl
  · simp

theorem execCmpX2_commutes : CommutesWithForget b execCmpX2 := by
  intro s
  have hx1 : (s.forgetProbes b).x1 = s.x1 := rfl
  have hcal : (s.forgetProbes b).validCal = s.validCal := rfl
  unfold execCmpX2
  rw [hx1, hcal]
  split
  · rw [mapNext_ite]
    exact if_congr Iff.rfl (by simp) rfl
  · simp

theorem execCmpB5_commutes : CommutesWithForget b execCmpB5 := by
  intro s
  have hx1 : (s.forgetProbes b).x1 = s.x1 := rfl
  have hx2 : (s.forgetProbes b).x2 = s.x2 := rfl
  unfold execCmpB5
  rw [hx1, hx2]
  split
  · rfl
  · simp

theorem execCmpT_commutes : CommutesWithForget b execCmpT := by
  intro s
  have hb5 : (s.forgetProbes b).b5 = s.b5 := rfl
  unfold execCmpT
  rw [hb5]
  split
  · rfl
  · simp

theorem execCompensate_commutes : CommutesWithForget b execCompensate := by
  intro s
  have hraw : (s.forgetProbes b).validRaw = s.validRaw := rfl
  have hcal : (s.forgetProbes b).validCal = s.validCal := rfl
  unfold execCompensate
  rw [hraw, hcal]
  split
  · split
    · rfl
    · simp
  · simp

/-! ### Every op, probes included -/

/-- `f` does the same with every PROBE_BYTE, but for the bytes that probes write. -/
def IgnoresProbeByte (b : Byte) (f : State → Result) : Prop :=
  ∀ s, mapNext (State.forgetProbes b) (f s) = mapNext (State.forgetProbes b) (f (s.withProbeByte b))

theorem CommutesWithForget.ignores {f : State → Result} (h : CommutesWithForget b f) : IgnoresProbeByte b f :=
  fun s => (h s).trans (h (s.withProbeByte b)).symm

theorem forgetProbes_probed (s : State) (a : BusAddr) (ack : Bool) :
    (s.probed a ack).forgetProbes b = (s.forgetProbes b).probed a ack := by
  cases ack with
  | true => exact forgetProbes_emit { s with probeAck := true } _
  | false => rfl

theorem forgetProbes_scanned (s : State) (a : BitVec 8) (ack : Bool) :
    (s.scanned a ack).forgetProbes b = (s.forgetProbes b).scanned a ack := by
  by_cases ha : a = scanLast
  · rw [ha, scanned_last, scanned_last, ← forgetProbes_probed]
    rfl
  · rw [scanned_of_ne_last ha, scanned_of_ne_last ha, ← forgetProbes_probed]
    rfl

/-- Whatever PROBE_BYTE is, a probe has the same request but for that byte (R122, R123). -/
theorem probe_ignoresProbeByte {a : BusAddr} {k : Bool → State → State}
    (hk : ∀ ack u, (k ack u).forgetProbes b = k ack (u.forgetProbes b)) :
    IgnoresProbeByte b fun s => transact (probeReq s.cfg a) s (fun _ _ => k true) (fun _ => k false) := by
  intro s
  rw [forgetProbes_transact (fun _ _ => hk true) (fun _ => hk false),
    forgetProbes_transact (fun _ _ => hk true) (fun _ => hk false), eraseProbe_probeReq, eraseProbe_probeReq]
  rfl

theorem execProbe_ignoresProbeByte (a : BusAddr) : IgnoresProbeByte b (execProbe a) :=
  probe_ignoresProbeByte (k := fun ack u => (u.probed a ack).done)
    fun ack u => congrArg State.done (forgetProbes_probed u a ack)

theorem execScan_ignoresProbeByte : IgnoresProbeByte b execScan := fun s =>
  probe_ignoresProbeByte (k := fun ack u => u.scanned s.scanTarget ack)
    (fun ack u => forgetProbes_scanned u s.scanTarget ack) s

theorem exec_ignoresProbeByte (i : Instr) : IgnoresProbeByte b (exec i) := by
  cases i with
  | report tag => exact (execReport_commutes tag).ignores
  | probe a => exact execProbe_ignoresProbeByte a
  | scan => exact execScan_ignoresProbeByte
  | readId => exact execReadId_commutes.ignores
  | readReg16 p slot => exact (execReadReg16_commutes p slot).ignores
  | commitCalib => exact execCommitCalib_commutes.ignores
  | readCalib => exact execReadCalib_commutes.ignores
  | trigger => exact execTrigger_commutes.ignores
  | waitConv => exact execWaitConv_commutes.ignores
  | readMsb => exact execReadMsb_commutes.ignores
  | readLsb => exact execReadLsb_commutes.ignores
  | measure => exact execMeasure_commutes.ignores
  | cmpX1 => exact execCmpX1_commutes.ignores
  | cmpX2 => exact execCmpX2_commutes.ignores
  | cmpB5 => exact execCmpB5_commutes.ignores
  | cmpT => exact execCmpT_commutes.ignores
  | compensate => exact execCompensate_commutes.ignores
  | jmp _ | halt => exact fun _ => rfl

/-- Settles O37: with the bytes of the probes forgotten the two next states are one, and the configuration of each is the one it
started with (`exec_cfg`). -/
theorem probeByteChangesNothingElse : Obligations.ProbeByteChangesNothingElse := by
  intro i s t b h
  have hignores := exec_ignoresProbeByte (b := b) i s
  rw [h] at hignores
  obtain ⟨u, hu, hsame⟩ := eq_next_of_mapNext_eq hignores.symm
  refine ⟨u, hu, ?_, congrArg State.trace hsame, congrArg State.busReq hsame⟩
  have hcfg : u = { u.forgetProbes b with trace := u.trace, busReq := u.busReq } := by
    have hbyte : u.cfg = { u.cfg with probeByte := b } := by rw [exec_cfg hu]; rfl
    exact congrArg (fun c => { u with cfg := c }) hbyte
  rw [hsame] at hcfg
  exact hcfg

end Sys2Proof.Machine
end

section
/-! The calibration ops (42_calibration.md R141 to R149): what each does with the bus's answer, that READ_CALIB is its sequence of
nine ops, and what the four ops leave unchanged. -/

namespace Sys2Proof.Machine

variable {s t : State} {b0 b1 : Byte} {k : ErrKind} {rest : List BusTurn} {slot : Slot} {cal : CalRec}

/-! ### READ_ID (R141) -/

/-- A byte of the identification register gives one record, by whether it is the expected one (R141, R143). -/
theorem identified_trace (s : State) (b : Byte) :
    (s.identified b).trace = s.trace ++ [.report (if b = 0x55#8 then .idIs b else .idUndetected)] := by
  by_cases hb : b = 0x55#8
  · subst hb; rfl
  · simp [State.identified, idMatches, expectedId, hb, State.emit, State.log]

theorem exec_readId_ack (hbus : s.busIn = .ack b0 b1 :: rest) :
    exec .readId s = .next ((s.answered (readReq regId 1) (.ok [b0]) rest).identified b0).done := by
  simp only [exec, execReadId, transact_ack hbus]
  rfl

theorem exec_readId_nack (hbus : s.busIn = .nack k :: rest) :
    exec .readId s = .next ((s.answered (readReq regId 1) (.err k) rest).idReadFailed k) := by
  simp only [exec, execReadId, transact_nack hbus]

theorem idReadFailed_fatal (hmode : s.cfg.idReadFailMode = .fatal) (k : ErrKind) :
    s.idReadFailed k = busFault 0x04#8 regId k s := by
  simp only [State.idReadFailed, hmode]

theorem idReadFailed_reported (hmode : s.cfg.idReadFailMode = .reportUndetected) (k : ErrKind) :
    s.idReadFailed k = ({ s with idMatch := false }.emit .idUndetected).done := by
  simp only [State.idReadFailed, hmode]

/-- Settles O29: an answered read by `identified_trace`, a failed one by ID_READ_FAIL_MODE. -/
theorem readIdRecordsTheIdentity : Obligations.ReadIdRecordsTheIdentity := by
  refine fun s rest => ⟨fun b b1 hbus => ?_, fun k hbus hmode => ?_, fun k hbus hmode => ?_⟩
  · rw [exec_readId_ack hbus, identified_eq, identified_trace, answered_trace, List.append_assoc]
    rfl
  · rw [exec_readId_nack hbus, idReadFailed_fatal (by exact hmode)]
    rfl
  · rw [exec_readId_nack hbus, idReadFailed_reported (by exact hmode), State.emit, State.log, answered_trace, List.append_assoc]
    rfl

/-! ### READ_REG16 (R145) -/

/-- The 16-bit register at `p` has been read into its slot; `upc`, `busy` and the progress registers are the op's own. -/
def State.registerRead (s : State) (p : Byte) (slot : Slot) (b0 b1 : Byte) (rest : List BusTurn) : State :=
  (s.answered (readReq p 2) (.ok [b0, b1]) rest).stage slot b0 b1

theorem exec_readReg16_ack (p : Byte) (slot : Slot) (hbus : s.busIn = .ack b0 b1 :: rest) :
    exec (.readReg16 p slot) s = .next (s.registerRead p slot b0 b1 rest).done := by
  simp only [exec, execReadReg16, transact_ack hbus]
  rfl

theorem exec_readReg16_nack (p : Byte) (slot : Slot) (hbus : s.busIn = .nack k :: rest) :
    exec (.readReg16 p slot) s = .next (busFault 0x05#8 p k (s.answered (readReq p 2) (.err k) rest)) := by
  simp only [exec, execReadReg16, transact_nack hbus]

/-- Settles O30: the mark of a slot is the bit of its number (`stageMark_eq`). -/
theorem readReg16StagesTheRegister : Obligations.ReadReg16StagesTheRegister := by
  refine fun p slot s rest => ⟨fun b0 b1 hbus => ?_, fun k hbus => exec_readReg16_nack p slot hbus⟩
  rw [exec_readReg16_ack p slot hbus, ← stageMark_eq]
  rfl

/-! ### COMMIT_CALIB (R146) -/

theorem exec_commitCalib_full (hvalid : s.calibValid = false) (hwritten : s.stageWritten = 0b1111#4)
    (hcal : s.calStage.toRec = some cal) : exec .commitCalib s = .next (s.commit cal).done := by
  simp [exec, execCommitCalib, stageFull, hvalid, hwritten, hcal]

theorem exec_commitCalib_refused (h : s.calibValid = true ∨ s.stageWritten ≠ 0b1111#4) :
    exec .commitCalib s = .next (seqFault 0x06#8 s) :=
  if_pos (by simpa [stageFull] using h)

/-- Settles O31. -/
theorem commitCalibBuildsTheRecord : Obligations.CommitCalibBuildsTheRecord := by
  refine fun s => ⟨fun v0 v1 v2 v3 hvalid hwritten hstage => ?_, exec_commitCalib_refused⟩
  exact exec_commitCalib_full hvalid hwritten (by rw [hstage]; rfl)

/-! ### READ_CALIB, step by step (R147, R148) -/

/-- READ_CALIB's next step is at progress `i`, with the slots of `written` marked: at 0 with none in its first step, where there
is no record; at `calib_idx` with those of `stage_written` after it. -/
def State.CalibAt (s : State) (i : BitVec 3) (written : BitVec 4) : Prop :=
  (s.busy = false ∧ s.calibValid = false ∧ i = 0#3 ∧ written = 0b0000#4) ∨
    (s.busy = true ∧ s.calibIdx = i ∧ written = s.stageWritten)

variable {i : BitVec 3} {written : BitVec 4}

theorem State.CalibAt.guard (h : s.CalibAt i written) : ¬(!s.busy && s.calibValid) = true := by
  rcases h with ⟨-, hv, -⟩ | ⟨hb, -⟩
  · simp [hv]
  · simp [hb]

theorem State.CalibAt.calibStep_eq (h : s.CalibAt i written) : s.calibStep = i := by
  rcases h with ⟨hb, -, rfl, -⟩ | ⟨hb, rfl, -⟩ <;> simp [State.calibStep, hb]

theorem State.CalibAt.calibWritten_eq (h : s.CalibAt i written) : s.calibWritten = written := by
  rcases h with ⟨hb, -, -, rfl⟩ | ⟨hb, -, rfl⟩ <;> simp [State.calibWritten, hb]

/-- READ_CALIB in progress at `i`, with the slots of `written` marked; `s` gives the registers that are not its progress. -/
def State.calibProgress (s : State) (i : BitVec 3) (written : BitVec 4) : State :=
  { s with calibIdx := i, stageWritten := written, busy := true }

theorem calibProgress_calibAt (s : State) (i : BitVec 3) (written : BitVec 4) :
    (s.calibProgress i written).CalibAt i written := .inr ⟨rfl, rfl, rfl⟩

theorem State.CalibAt.enterCalib_eq (h : s.CalibAt i written) : s.enterCalib = s.calibProgress i written := by
  rw [Machine.enterCalib_eq, h.calibStep_eq, h.calibWritten_eq, State.calibProgress]

theorem State.CalibAt.answered (h : s.CalibAt i written) (req : BusReq) (resp : BusResp) (rest : List BusTurn) :
    (s.answered req resp rest).CalibAt i written := h

/-- A step that reads a slot is one transaction. -/
theorem exec_readCalib_reads (h : s.CalibAt i written) (hslot : slotOfIdx i = some slot) :
    exec .readCalib s = transact (readReq (slotPtr slot) 2) s (fun b0 b1 u => u.calibRead slot i b0 b1)
      (fun k u => busFault 0x07#8 (slotPtr slot) k u.enterCalib) := by
  simp only [exec, execReadCalib, if_neg h.guard, h.calibStep_eq, hslot]

theorem exec_readCalib_ack (h : s.CalibAt i written) (hslot : slotOfIdx i = some slot)
    (hbus : s.busIn = .ack b0 b1 :: rest) :
    exec .readCalib s = .next
      ((s.registerRead (slotPtr slot) slot b0 b1 rest).calibProgress (i + 1#3) (stageMark written slot)) := by
  rw [exec_readCalib_reads h hslot, transact_ack hbus, State.calibRead, (h.answered _ _ _).enterCalib_eq]
  rfl

theorem exec_readCalib_nack (h : s.CalibAt i written) (hslot : slotOfIdx i = some slot)
    (hbus : s.busIn = .nack k :: rest) :
    exec .readCalib s = .next (busFault 0x07#8 (slotPtr slot) k
      ((s.answered (readReq (slotPtr slot) 2) (.err k) rest).calibProgress i written)) := by
  rw [exec_readCalib_reads h hslot, transact_nack hbus, (h.answered _ _ _).enterCalib_eq]

theorem exec_readCalib_commits (h : s.CalibAt i written) (hslot : slotOfIdx i = none)
    (hcal : s.calStage.toRec = some cal) :
    exec .readCalib s = .next ((s.commit cal).log (calibRecords cal)).done := by
  simp only [exec, execReadCalib, if_neg h.guard, h.calibStep_eq, hslot, commitAndReport, hcal]

theorem exec_readCalib_refused (hbusy : s.busy = false) (hvalid : s.calibValid = true) :
    exec .readCalib s = .next (seqFault 0x07#8 s) :=
  if_pos (by simp [hbusy, hvalid])

/-- The rows of R147: at each progress below 4 READ_CALIB reads that row's slot at that row's pointer. -/
theorem calibRow_eq {row : BitVec 3 × Slot × Byte}
    (h : row ∈ [(0#3, Slot.ac5, 0xB2#8), (1#3, .ac6, 0xB4#8), (2#3, .mc, 0xBC#8), (3#3, .md, 0xBE#8)]) :
    ∃ slot, slotOfIdx row.1 = some slot ∧ row.2 = (slot, slotPtr slot) := by
  simp only [List.mem_cons, List.not_mem_nil, or_false] at h
  rcases h with rfl | rfl | rfl | rfl <;> exact ⟨_, rfl, rfl⟩

/-- Settles O32: the guard, the reads of the rows of R147 (`calibRow_eq`), and the commit at progress 4. -/
theorem readCalibStepByStep : Obligations.ReadCalibStepByStep := by
  refine fun s => ⟨exec_readCalib_refused, ?_, fun v0 v1 v2 v3 hbusy hidx hstage => ?_⟩
  · rintro row hrow i slot p written rfl hat
    obtain ⟨slot, hslot, ⟨⟩⟩ := calibRow_eq hrow
    refine ⟨fun b0 b1 rest hbus => ?_, fun k rest hbus => exec_readCalib_nack hat hslot hbus⟩
    rw [exec_readCalib_ack hat hslot hbus, stageMark_eq]
    rfl
  · exact exec_readCalib_commits (.inr ⟨hbusy, hidx, rfl⟩) rfl (by rw [hstage]; rfl)

/-! ### READ_CALIB is its nine ops (R149) -/

theorem execSeq_cons {j : Instr} {js : List Instr} (h : exec j s = .next t) : execSeq (j :: js) s = execSeq js t := by
  simp only [execSeq, h]

theorem execTimes_succ {j : Instr} {n : Nat} (h : exec j s = .next t) : execTimes j (n + 1) s = execTimes j n t := by
  simp only [execTimes, h]

theorem exec_report_held {tag : ReportTag} {r : Record} (h : s.recordFor tag = some r) :
    exec (.report tag) s = .next (s.emit r).done := by
  simp only [exec, execReport, reportHeld, h]

/-- The four REPORTs emit the records READ_CALIB's last step emits (R148, R233). -/
theorem execSeq_reports (h : s.validCal = some cal) :
    execSeq [.report .ac5, .report .ac6, .report .mc, .report .md] s =
      .next { s.log (calibRecords cal) with busy := false, upc := s.upc + 1#9 + 1#9 + 1#9 + 1#9 } := by
  have hac5 : s.recordFor .ac5 = some (.ac5 cal.ac5) := by simp [State.recordFor, h]
  have hac6 : s.recordFor .ac6 = some (.ac6 cal.ac6) := by simp [State.recordFor, h]
  have hmc : s.recordFor .mc = some (.mc cal.mc) := by simp [State.recordFor, h]
  have hmd : s.recordFor .md = some (.md cal.md) := by simp [State.recordFor, h]
  rw [execSeq_cons (exec_report_held hac5), execSeq_cons (exec_report_held (by exact hac6)),
    execSeq_cons (exec_report_held (by exact hmc)), execSeq_cons (exec_report_held (by exact hmd))]
  simp [execSeq, State.emit, State.log, State.done, calibRecords]

/-- The last five ops of the sequence do what READ_CALIB's last step does, but for `upc` (R149). -/
theorem execSeq_commitCalib_reports (hvalid : s.calibValid = false) (hwritten : s.stageWritten = 0b1111#4)
    (hcal : s.calStage.toRec = some cal) :
    execSeq [.commitCalib, .report .ac5, .report .ac6, .report .mc, .report .md] s =
      .next { (s.commit cal).log (calibRecords cal) with
        busy := false, upc := s.upc + 1#9 + 1#9 + 1#9 + 1#9 + 1#9 } := by
  rw [execSeq_cons (exec_commitCalib_full hvalid hwritten hcal)]
  exact execSeq_reports rfl

/-- Marking every slot sets every bit (R27). -/
theorem stageMark_all (w : BitVec 4) :
    stageMark (stageMark (stageMark (stageMark w .ac5) .ac6) .mc) .md = 0b1111#4 := by
  revert w
  decide

/-- A later read of READ_CALIB (R148). -/
theorem exec_readCalib_progress (hslot : slotOfIdx i = some slot) (hbus : s.busIn = .ack b0 b1 :: rest) :
    exec .readCalib (s.calibProgress i written) = .next
      ((s.registerRead (slotPtr slot) slot b0 b1 rest).calibProgress (i + 1#3) (stageMark written slot)) :=
  exec_readCalib_ack (calibProgress_calibAt s i written) hslot hbus

/-- The four registers of R147 have been read into their slots, in order. -/
def State.registersRead (s : State) (b0 b1 c0 c1 d0 d1 e0 e1 : Byte) (rest : List BusTurn) : State :=
  { s with
    busIn := rest, busReq := none
    calStage := ⟨some (be16 b0 b1), some (be16 c0 c1), some (be16 d0 d1), some (be16 e0 e1)⟩
    stageWritten := 0b1111#4
    trace := s.trace ++ [.bus (readReq 0xB2#8 2) (.ok [b0, b1]), .bus (readReq 0xB4#8 2) (.ok [c0, c1]),
      .bus (readReq 0xBC#8 2) (.ok [d0, d1]), .bus (readReq 0xBE#8 2) (.ok [e0, e1])] }

/-- The record of the bytes of four reads (R144, R146). -/
def CalRec.ofBytes (b0 b1 c0 c1 d0 d1 e0 e1 : Byte) : CalRec :=
  ⟨be16 b0 b1, be16 c0 c1, be16 d0 d1, be16 e0 e1⟩

theorem registersRead_toRec (s : State) (b0 b1 c0 c1 d0 d1 e0 e1 : Byte) (rest : List BusTurn) :
    (s.registersRead b0 b1 c0 c1 d0 d1 e0 e1 rest).calStage.toRec = some (.ofBytes b0 b1 c0 c1 d0 d1 e0 e1) := rfl

section FourReads

variable {c0 c1 d0 d1 e0 e1 : Byte}
  (hbus : s.busIn = .ack b0 b1 :: .ack c0 c1 :: .ack d0 d1 :: .ack e0 e1 :: rest)
include hbus

theorem execSeq_reads (js : List Instr) :
    execSeq (.readReg16 0xB2#8 .ac5 :: .readReg16 0xB4#8 .ac6 :: .readReg16 0xBC#8 .mc :: .readReg16 0xBE#8 .md :: js) s =
      execSeq js { s.registersRead b0 b1 c0 c1 d0 d1 e0 e1 rest with
        busy := false, upc := s.upc + 1#9 + 1#9 + 1#9 + 1#9 } := by
  rw [execSeq_cons (exec_readReg16_ack _ _ hbus), execSeq_cons (exec_readReg16_ack _ _ rfl),
    execSeq_cons (exec_readReg16_ack _ _ rfl), execSeq_cons (exec_readReg16_ack _ _ rfl)]
  simp [State.registerRead, State.registersRead, State.stage, State.answered, State.done, CalStage.set, stageMark_all]

theorem execTimes_readCalib_reads (hbusy : s.busy = false) (hvalid : s.calibValid = false) (n : Nat) :
    execTimes .readCalib (n + 4) s = execTimes .readCalib n
      ((s.registersRead b0 b1 c0 c1 d0 d1 e0 e1 rest).calibProgress 4#3 0b1111#4) := by
  rw [execTimes_succ (exec_readCalib_ack (.inl ⟨hbusy, hvalid, rfl, rfl⟩) rfl hbus),
    execTimes_succ (exec_readCalib_progress rfl rfl),
    execTimes_succ (exec_readCalib_progress rfl rfl),
    execTimes_succ (exec_readCalib_progress rfl rfl), stageMark_all]
  simp [State.registerRead, State.registersRead, State.stage, State.answered, State.calibProgress, CalStage.set, slotPtr,
    regAc5, regAc6, regMc, regMd]

end FourReads

/-- Settles O33: the same four reads on both sides, then the commit and the four records in five ops and in one step. -/
theorem readCalibIsTheNineOps : Obligations.ReadCalibIsTheNineOps := by
  intro s b0 b1 c0 c1 d0 d1 e0 e1 rest hbusy hvalid hbus
  have hcal := registersRead_toRec s b0 b1 c0 c1 d0 d1 e0 e1 rest
  have hlast := exec_readCalib_commits
    (calibProgress_calibAt (s.registersRead b0 b1 c0 c1 d0 d1 e0 e1 rest) 4#3 0b1111#4) rfl hcal
  exact ⟨_, (execSeq_reads hbus _).trans (execSeq_commitCalib_reports hvalid rfl hcal),
    (execTimes_readCalib_reads hbus hbusy hvalid 1).trans (execTimes_succ hlast)⟩

/-! ### Frames (R141, R145, R146, R148) -/

/-- A failed transaction of READ_ID, READ_REG16 or READ_CALIB halts the block, whatever the policy (R256 STARTUP). -/
theorem busFault_startup {op : Byte} (hop : op ∈ [0x04#8, 0x05#8, 0x07#8]) (ptr : Byte) (k : ErrKind) (s : State) :
    busFault op ptr k s = { s.saveFault (busCause k) ⟨op, some sensorAddr, some ptr, some k, none⟩ with
      runState := .halted } := by
  have hclass : failClass op (busCause k) = .startup := by
    revert op
    cases k <;> decide
  exact raiseFault_halts (by simp [hclass]) (.inl (by simp [hclass]))

theorem execReadId_frame (h : execReadId s = .next t) :
    t = { s with
      devId := t.devId, idMatch := t.idMatch, upc := t.upc, busy := t.busy, runState := t.runState
      cause := t.cause, faultUpc := t.faultUpc, faultInfo := t.faultInfo
      trace := t.trace, busIn := t.busIn, busReq := t.busReq } := by
  rcases execReadId_next h with ⟨b, b1, u, ⟨-⟩, rfl⟩ | ⟨k, u, ⟨-⟩, rfl⟩ | ⟨-⟩ | ⟨-⟩
  · rw [identified_eq]; rfl
  · cases hmode : s.cfg.idReadFailMode with
    | fatal => rw [idReadFailed_fatal (by exact hmode), busFault_startup (by decide)]; rfl
    | reportUndetected => rw [idReadFailed_reported (by exact hmode)]; rfl
  · rfl
  · rfl

theorem execReadReg16_frame {p : Byte} (h : execReadReg16 p slot s = .next t) :
    t = { s with
      calStage := t.calStage, stageWritten := t.stageWritten, upc := t.upc, busy := t.busy, runState := t.runState
      cause := t.cause, faultUpc := t.faultUpc, faultInfo := t.faultInfo
      trace := t.trace, busIn := t.busIn, busReq := t.busReq } := by
  rcases execReadReg16_next h with ⟨b0, b1, u, ⟨-⟩, rfl⟩ | ⟨k, u, ⟨-⟩, rfl⟩ | ⟨-⟩ | ⟨-⟩
  · rfl
  · rw [busFault_startup (by decide)]; rfl
  · rfl
  · rfl

/-- READ_REG16 keeps the value of every slot but its own (R145). -/
theorem execReadReg16_other_slot {p : Byte} {other : Slot} (h : execReadReg16 p slot s = .next t) (hne : other ≠ slot) :
    t.calStage.get other = s.calStage.get other := by
  rcases execReadReg16_next h with ⟨b0, b1, u, ⟨-⟩, rfl⟩ | ⟨k, u, ⟨-⟩, rfl⟩ | ⟨-⟩ | ⟨-⟩
  · exact (CalStage.get_set s.calStage slot other _).trans (if_neg hne)
  · rw [busFault_startup (by decide)]; rfl
  · rfl
  · rfl

theorem execCommitCalib_frame (h : execCommitCalib s = .next t) :
    t = { s with
      calRec := t.calRec, calibValid := t.calibValid, stageWritten := t.stageWritten
      upc := t.upc, busy := false, runState := t.runState
      cause := t.cause, faultUpc := t.faultUpc, faultInfo := t.faultInfo } := by
  rcases execCommitCalib_next h with ⟨-, -, cal, -, rfl⟩ | ⟨-, rfl⟩
  · rfl
  · rw [seqFault_eq]; rfl

theorem execReadCalib_frame (h : execReadCalib s = .next t) :
    t = { s with
      calibIdx := t.calibIdx, calStage := t.calStage, stageWritten := t.stageWritten
      calRec := t.calRec, calibValid := t.calibValid, upc := t.upc, busy := t.busy, runState := t.runState
      cause := t.cause, faultUpc := t.faultUpc, faultInfo := t.faultInfo
      trace := t.trace, busIn := t.busIn, busReq := t.busReq } := by
  rcases execReadCalib_next h with
    ⟨-, -, rfl⟩ | ⟨-, ⟨slot, -, ⟨b0, b1, u, ⟨-⟩, rfl⟩ | ⟨k, u, ⟨-⟩, rfl⟩ | ⟨⟨-⟩ | ⟨-⟩⟩⟩ | ⟨-, ⟨cal, -, rfl⟩ | ⟨-, rfl⟩⟩⟩
  · rw [seqFault_eq]; rfl
  · rw [State.calibRead, enterCalib_eq]; rfl
  · rw [busFault_startup (by decide), enterCalib_eq]; rfl
  · rfl
  · rfl
  · rfl
  · rw [seqFault_eq]; rfl

/-- Settles O53, op by op. -/
theorem frameOfCalibrationOps : Obligations.FrameOfCalibrationOps :=
  fun _ _ => ⟨execReadId_frame, fun _ _ h => ⟨execReadReg16_frame h, fun _ hne => execReadReg16_other_slot h hne⟩,
    execCommitCalib_frame, execReadCalib_frame⟩

end Sys2Proof.Machine
end

section
/-! The calibration record (42_calibration.md R146, R148, R150, R151): an op keeps it, and emits its four records only where it is
valid, unless COMMIT_CALIB or READ_CALIB writes it whole. -/

namespace Sys2Proof.Machine

variable {s t u : State} {i : Instr}

/-! ### What keeps the record -/

/-- One of the four records that report the calibration (R86, R147). -/
def Event.isCalibRecord : Event → Bool
  | .report (.ac5 _) | .report (.ac6 _) | .report (.mc _) | .report (.md _) => true
  | .report _ | .bus _ _ | .timerStart | .timerElapsed | .reset => false

/-- From `s` to `t` the calibration record and its valid bit stay, and where the bit is 0 none of the four records is emitted. -/
def KeepsRecord (s t : State) : Prop :=
  t.calRec = s.calRec ∧ t.calibValid = s.calibValid ∧
    ∃ es, t.trace = s.trace ++ es ∧ (s.calibValid = false → ∀ e ∈ es, e.isCalibRecord = false)

theorem keepsRecord_of_eq (hrec : t.calRec = s.calRec) (hvalid : t.calibValid = s.calibValid)
    (htrace : t.trace = s.trace) : KeepsRecord s t :=
  ⟨hrec, hvalid, [], by simp [htrace], by simp⟩

theorem keepsRecord_of_event (hrec : t.calRec = s.calRec) (hvalid : t.calibValid = s.calibValid) {e : Event}
    (htrace : t.trace = s.trace ++ [e]) (he : s.calibValid = false → e.isCalibRecord = false) : KeepsRecord s t :=
  ⟨hrec, hvalid, [e], htrace, by simpa using he⟩

theorem done_keepsRecord (s : State) : KeepsRecord s s.done := keepsRecord_of_eq rfl rfl rfl

theorem KeepsRecord.done (h : KeepsRecord s t) : KeepsRecord s t.done := h

theorem KeepsRecord.trans (hst : KeepsRecord s t) (htu : KeepsRecord t u) : KeepsRecord s u := by
  obtain ⟨hrec, hvalid, es, htrace, hes⟩ := hst
  obtain ⟨hrec', hvalid', es', htrace', hes'⟩ := htu
  refine ⟨hrec'.trans hrec, hvalid'.trans hvalid, es ++ es', by simp [htrace', htrace], fun h e he => ?_⟩
  rcases List.mem_append.mp he with he | he
  · exact hes h e he
  · exact hes' (hvalid.trans h) e he

theorem raiseFault_keepsRecord (c : Cause) (info : FaultInfo) (s : State) : KeepsRecord s (raiseFault c info s) := by
  rcases raiseFault_cases c info s with ⟨-, he⟩ | he | ⟨-, -, he⟩ <;> rw [he]
  · exact keepsRecord_of_eq rfl rfl rfl
  · exact keepsRecord_of_eq rfl rfl rfl
  · rcases failCycle_cases c (s.saveFault c info) with he | he <;> rw [he] <;>
      exact keepsRecord_of_event rfl rfl rfl fun _ => rfl

theorem seqFault_keepsRecord (op : Byte) (s : State) : KeepsRecord s (seqFault op s) := raiseFault_keepsRecord _ _ s

theorem divFault_keepsRecord (op : Byte) (s : State) : KeepsRecord s (divFault op s) := raiseFault_keepsRecord _ _ s

theorem busFault_keepsRecord (op ptr : Byte) (k : ErrKind) (s : State) : KeepsRecord s (busFault op ptr k s) :=
  raiseFault_keepsRecord _ _ s

theorem probed_keepsRecord (s : State) (a : BusAddr) (ack : Bool) : KeepsRecord s (s.probed a ack) := by
  cases ack with
  | true => exact keepsRecord_of_event rfl rfl rfl fun _ => rfl
  | false => exact keepsRecord_of_eq rfl rfl rfl

theorem scanned_keepsRecord (s : State) (a : BitVec 8) (ack : Bool) : KeepsRecord s (s.scanned a ack) := by
  by_cases ha : a = scanLast
  · rw [ha, scanned_last]
    exact probed_keepsRecord s _ ack
  · rw [scanned_of_ne_last ha]
    exact probed_keepsRecord s _ ack

theorem identified_keepsRecord (s : State) (b : Byte) : KeepsRecord s (s.identified b) := by
  rw [identified_eq]
  refine keepsRecord_of_event rfl rfl (identified_trace s b) fun _ => ?_
  split <;> rfl

theorem idReadFailed_keepsRecord (s : State) (k : ErrKind) : KeepsRecord s (s.idReadFailed k) := by
  cases hmode : s.cfg.idReadFailMode with
  | fatal => rw [idReadFailed_fatal hmode]; exact busFault_keepsRecord _ _ k s
  | reportUndetected => rw [idReadFailed_reported hmode]; exact keepsRecord_of_event rfl rfl rfl fun _ => rfl

theorem stage_keepsRecord (s : State) (slot : Slot) (b0 b1 : Byte) : KeepsRecord s (s.stage slot b0 b1) :=
  keepsRecord_of_eq rfl rfl rfl

theorem enterCalib_keepsRecord (s : State) : KeepsRecord s s.enterCalib := by
  rw [enterCalib_eq]
  exact keepsRecord_of_eq rfl rfl rfl

theorem calibRead_keepsRecord (s : State) (slot : Slot) (j : BitVec 3) (b0 b1 : Byte) :
    KeepsRecord s (s.calibRead slot j b0 b1) :=
  (enterCalib_keepsRecord s).trans (stage_keepsRecord s.enterCalib slot b0 b1)

theorem Answered.keepsRecord {req : BusReq} {a : (Byte × Byte) ⊕ ErrKind} (h : Answered req s a u) : KeepsRecord s u := by
  cases h <;> exact keepsRecord_of_event rfl rfl rfl fun _ => rfl

theorem Awaiting.keepsRecord {req : BusReq} (h : Awaiting req s t) : KeepsRecord s t := by
  cases h <;> exact keepsRecord_of_eq rfl rfl rfl

/-- A transaction keeps the record when what follows either answer does. -/
theorem transaction_keepsRecord {req : BusReq} {onOk : Byte → Byte → State → State} {onErr : ErrKind → State → State}
    (hok : ∀ b0 b1 u, KeepsRecord u (onOk b0 b1 u)) (herr : ∀ k u, KeepsRecord u (onErr k u))
    (hnext : (∃ b0 b1 u, Answered req s (.inl (b0, b1)) u ∧ t = onOk b0 b1 u) ∨
      (∃ k u, Answered req s (.inr k) u ∧ t = onErr k u) ∨ Awaiting req s t) : KeepsRecord s t := by
  rcases hnext with ⟨b0, b1, u, ha, rfl⟩ | ⟨k, u, ha, rfl⟩ | hw
  · exact ha.keepsRecord.trans (hok b0 b1 u)
  · exact ha.keepsRecord.trans (herr k u)
  · exact hw.keepsRecord

/-! ### The ops that do not write the record -/

/-- REPORT emits a record of the calibration only where it is valid (R233). -/
theorem isCalibRecord_of_recordFor {tag : ReportTag} {r : Record} (h : s.recordFor tag = some r)
    (hvalid : s.calibValid = false) : (Event.report r).isCalibRecord = false := by
  have hcal : s.validCal = none := by simp [State.validCal, hvalid]
  cases tag with
  | scanStart => cases h; rfl
  | temp => obtain ⟨v, -, rfl⟩ := Option.map_eq_some_iff.mp h; rfl
  | ac5 | ac6 | mc | md => simp [State.recordFor, hcal] at h

theorem execReport_keepsRecord {tag : ReportTag} (h : execReport tag s = .next t) : KeepsRecord s t := by
  rcases execReport_next h with ⟨r, hr, rfl⟩ | ⟨-, rfl⟩
  · exact keepsRecord_of_event rfl rfl rfl (isCalibRecord_of_recordFor hr)
  · exact seqFault_keepsRecord _ s

theorem execProbe_keepsRecord {a : BusAddr} (h : execProbe a s = .next t) : KeepsRecord s t :=
  transaction_keepsRecord (fun _ _ u => (probed_keepsRecord u a true).done)
    (fun _ u => (probed_keepsRecord u a false).done) (execProbe_next h)

theorem execScan_keepsRecord (h : execScan s = .next t) : KeepsRecord s t :=
  transaction_keepsRecord (fun _ _ u => scanned_keepsRecord u _ true) (fun _ u => scanned_keepsRecord u _ false)
    (execScan_next h)

theorem execReadId_keepsRecord (h : execReadId s = .next t) : KeepsRecord s t :=
  transaction_keepsRecord (fun b _ u => (identified_keepsRecord u b).done) (fun k u => idReadFailed_keepsRecord u k)
    (execReadId_next h)

theorem execReadReg16_keepsRecord {p : Byte} {slot : Slot} (h : execReadReg16 p slot s = .next t) : KeepsRecord s t :=
  transaction_keepsRecord (fun b0 b1 u => (stage_keepsRecord u slot b0 b1).done) (busFault_keepsRecord _ p)
    (execReadReg16_next h)

section Phases

variable {op : Byte} {fin : State → State} (hfin : ∀ u, KeepsRecord u (fin u))
include hfin

theorem triggerPhase_keepsRecord (h : triggerPhase op fin s = .next t) : KeepsRecord s t :=
  transaction_keepsRecord (fun _ _ u => hfin { u with rawValid := false, measState := .triggered })
    (fun k u => busFault_keepsRecord op regCtrl k { u with rawValid := false }) (triggerPhase_next h)

theorem awaitPhase_keepsRecord (h : awaitPhase fin s = .next t) : KeepsRecord s t := by
  rcases awaitPhase_next h with ⟨-, rfl⟩ | ⟨-, rfl⟩
  · have htake : KeepsRecord s { s.takeElapsed with measState := .readMsb } :=
      keepsRecord_of_event rfl rfl rfl fun _ => rfl
    exact htake.trans (hfin _)
  · exact keepsRecord_of_eq rfl rfl rfl

theorem msbPhase_keepsRecord (h : msbPhase op fin s = .next t) : KeepsRecord s t :=
  transaction_keepsRecord (fun b _ u => hfin { u with raw := some (rawFromMsb b), measState := .readLsb })
    (busFault_keepsRecord op regMsb) (msbPhase_next h)

theorem lsbPhase_keepsRecord (h : lsbPhase op fin s = .next t) : KeepsRecord s t := by
  rcases lsbPhase_next h with ⟨-, rfl⟩ | ⟨raw, -, hnext⟩
  · exact seqFault_keepsRecord op s
  · exact transaction_keepsRecord
      (fun b _ u => hfin { u with raw := some (rawWithLsb raw b), rawValid := true, measState := .complete })
      (busFault_keepsRecord op regLsb) hnext

end Phases

theorem startPhase_keepsRecord (s : State) : KeepsRecord s (startPhase s) :=
  keepsRecord_of_event rfl rfl rfl fun _ => rfl

theorem execTrigger_keepsRecord (h : execTrigger s = .next t) : KeepsRecord s t := by
  rcases execTrigger_next h with ⟨-, hp⟩ | ⟨-, rfl⟩
  · exact triggerPhase_keepsRecord done_keepsRecord hp
  · exact seqFault_keepsRecord _ s

theorem execWaitConv_keepsRecord (h : execWaitConv s = .next t) : KeepsRecord s t := by
  rcases execWaitConv_next h with ⟨-, hp⟩ | ⟨-, -, rfl⟩ | ⟨-, -, rfl⟩
  · exact awaitPhase_keepsRecord done_keepsRecord hp
  · exact startPhase_keepsRecord s
  · exact seqFault_keepsRecord _ s

theorem execReadMsb_keepsRecord (h : execReadMsb s = .next t) : KeepsRecord s t := by
  rcases execReadMsb_next h with ⟨-, hp⟩ | ⟨-, rfl⟩
  · exact msbPhase_keepsRecord done_keepsRecord hp
  · exact seqFault_keepsRecord _ s

theorem execReadLsb_keepsRecord (h : execReadLsb s = .next t) : KeepsRecord s t := by
  rcases execReadLsb_next h with ⟨-, hp⟩ | ⟨-, rfl⟩
  · exact lsbPhase_keepsRecord done_keepsRecord hp
  · exact seqFault_keepsRecord _ s

theorem execMeasure_keepsRecord (h : execMeasure s = .next t) : KeepsRecord s t := by
  have hid : ∀ u, KeepsRecord u (id u) := fun _ => keepsRecord_of_eq rfl rfl rfl
  rcases execMeasure_next h with
    ⟨-, -, hp⟩ | ⟨-, -, rfl⟩ | ⟨-, ⟨-, rfl⟩ | ⟨-, hp⟩ | ⟨-, hp⟩ | ⟨-, hp⟩ | ⟨-, rfl⟩⟩
  · exact triggerPhase_keepsRecord (fin := State.beginMeasure) (fun _ => keepsRecord_of_eq rfl rfl rfl) hp
  · exact seqFault_keepsRecord _ s
  · exact startPhase_keepsRecord s
  · exact awaitPhase_keepsRecord hid hp
  · exact msbPhase_keepsRecord hid hp
  · exact lsbPhase_keepsRecord done_keepsRecord hp
  · exact hid _

theorem execCmpX1_keepsRecord (h : execCmpX1 s = .next t) : KeepsRecord s t := by
  rcases execCmpX1_next h with ⟨raw, cal, -, -, rfl⟩ | ⟨-, rfl⟩
  · exact keepsRecord_of_eq rfl rfl rfl
  · exact seqFault_keepsRecord _ s

theorem execCmpX2_keepsRecord (h : execCmpX2 s = .next t) : KeepsRecord s t := by
  rcases execCmpX2_next h with ⟨x1, cal, -, -, ⟨-, rfl⟩ | ⟨-, rfl⟩⟩ | ⟨-, rfl⟩
  · exact divFault_keepsRecord _ s
  · exact keepsRecord_of_eq rfl rfl rfl
  · exact seqFault_keepsRecord _ s

theorem execCmpB5_keepsRecord (h : execCmpB5 s = .next t) : KeepsRecord s t := by
  rcases execCmpB5_next h with ⟨x1, x2, -, -, rfl⟩ | ⟨-, rfl⟩
  · exact keepsRecord_of_eq rfl rfl rfl
  · exact seqFault_keepsRecord _ s

theorem execCmpT_keepsRecord (h : execCmpT s = .next t) : KeepsRecord s t := by
  rcases execCmpT_next h with ⟨b5, -, rfl⟩ | ⟨-, rfl⟩
  · exact keepsRecord_of_eq rfl rfl rfl
  · exact seqFault_keepsRecord _ s

theorem execCompensate_keepsRecord (h : execCompensate s = .next t) : KeepsRecord s t := by
  rcases execCompensate_next h with ⟨raw, cal, -, -, ⟨x1, x2, b5, v, -, rfl⟩ | ⟨x1, -, rfl⟩⟩ | ⟨-, rfl⟩
  · exact keepsRecord_of_eq rfl rfl rfl
  · exact divFault_keepsRecord _ s
  · exact seqFault_keepsRecord _ s

/-! ### The two ops that write it -/

/-- From `s` to `t` the record of the four slots has been written, by COMMIT_CALIB where there was none, or by READ_CALIB past
its guard (R146, R148). -/
def CommitsRecord (i : Instr) (s t : State) : Prop :=
  (i = .commitCalib ∧ s.calibValid = false ∨ i = .readCalib ∧ (s.busy = true ∨ s.calibValid = false)) ∧
    ∃ cal, s.calStage.toRec = some cal ∧ t.calRec = some cal ∧ t.calibValid = true

theorem execCommitCalib_record (h : execCommitCalib s = .next t) : KeepsRecord s t ∨ CommitsRecord .commitCalib s t := by
  rcases execCommitCalib_next h with ⟨hvalid, -, cal, hcal, rfl⟩ | ⟨-, rfl⟩
  · exact .inr ⟨.inl ⟨rfl, hvalid⟩, cal, hcal, rfl, rfl⟩
  · exact .inl (seqFault_keepsRecord _ s)

theorem execReadCalib_record (h : execReadCalib s = .next t) : KeepsRecord s t ∨ CommitsRecord .readCalib s t := by
  rcases execReadCalib_next h with ⟨-, -, rfl⟩ | ⟨hguard, ⟨slot, -, hnext⟩ | ⟨-, ⟨cal, hcal, rfl⟩ | ⟨-, rfl⟩⟩⟩
  · exact .inl (seqFault_keepsRecord _ s)
  · exact .inl (transaction_keepsRecord (fun b0 b1 u => calibRead_keepsRecord u slot _ b0 b1)
      (fun k u => (enterCalib_keepsRecord u).trans (busFault_keepsRecord _ _ k _)) hnext)
  · exact .inr ⟨.inr ⟨rfl, hguard⟩, cal, hcal, rfl, rfl⟩
  · exact .inl (seqFault_keepsRecord _ s)

/-- Every op keeps the record or writes it whole. -/
theorem exec_record (h : exec i s = .next t) : KeepsRecord s t ∨ CommitsRecord i s t := by
  cases i with
  | commitCalib => exact execCommitCalib_record h
  | readCalib => exact execReadCalib_record h
  | report tag => exact .inl (execReport_keepsRecord h)
  | probe a => exact .inl (execProbe_keepsRecord h)
  | scan => exact .inl (execScan_keepsRecord h)
  | readId => exact .inl (execReadId_keepsRecord h)
  | readReg16 p slot => exact .inl (execReadReg16_keepsRecord h)
  | trigger => exact .inl (execTrigger_keepsRecord h)
  | waitConv => exact .inl (execWaitConv_keepsRecord h)
  | readMsb => exact .inl (execReadMsb_keepsRecord h)
  | readLsb => exact .inl (execReadLsb_keepsRecord h)
  | measure => exact .inl (execMeasure_keepsRecord h)
  | cmpX1 => exact .inl (execCmpX1_keepsRecord h)
  | cmpX2 => exact .inl (execCmpX2_keepsRecord h)
  | cmpB5 => exact .inl (execCmpB5_keepsRecord h)
  | cmpT => exact .inl (execCmpT_keepsRecord h)
  | compensate => exact .inl (execCompensate_keepsRecord h)
  | jmp _ | halt => cases h; exact .inl (keepsRecord_of_eq rfl rfl rfl)

/-- Settles O34: `exec_record`, from a state without a record. -/
theorem recordAppearsOnlyWhole : Obligations.RecordAppearsOnlyWhole := by
  intro i s t hnone h
  rcases exec_record h with ⟨hrec, hvalid, es, htrace, hes⟩ | ⟨hop, cal, hcal, hrec, hvalid⟩
  · refine ⟨fun ht => absurd (ht.symm.trans (hvalid.trans hnone)) (by simp), fun _ => ⟨hrec, es, htrace, fun v => ?_⟩⟩
    have hnot (e : Event) (he : e.isCalibRecord = true) : e ∉ es := fun hmem => by simp [hes hnone e hmem] at he
    exact ⟨hnot _ rfl, hnot _ rfl, hnot _ rfl, hnot _ rfl⟩
  · refine ⟨fun _ => ⟨hop.imp And.left And.left, hrec.trans hcal.symm, by simp [hrec]⟩, fun ht => ?_⟩
    exact absurd (ht.symm.trans hvalid) (by simp)

/-! ### Until reset (R151) -/

/-- From a consistent state with a record neither op writes it again: READ_CALIB is past its guard only where there is none
(`State.ReadyFor.calib_staged`). -/
theorem State.ReadyFor.keepsRecord (hs : s.ReadyFor i) (hvalid : s.calibValid = true) (h : exec i s = .next t) :
    KeepsRecord s t := by
  rcases exec_record h with hkeeps | ⟨⟨-, hnone⟩ | ⟨rfl, hguard⟩, -⟩
  · exact hkeeps
  · exact absurd (hvalid.symm.trans hnone) (by simp)
  · exact absurd (hvalid.symm.trans (hs.calib_staged hguard).1) (by simp)

theorem atBoundary_keepsRecord (s : State) : KeepsRecord s (atBoundary s) := by
  rw [atBoundary_eq]
  exact keepsRecord_of_eq rfl rfl rfl

/-- A step that is no reset keeps the record, from a consistent state that has one. -/
theorem step_keepsRecord (hinv : s.Inv) (hvalid : s.calibValid = true) (hreset : s.ticks.head? ≠ some .reset)
    (h : step s = .next t) : KeepsRecord s t := by
  refine (atBoundary_keepsRecord s).trans ?_
  rcases step_cases s with
    ⟨-, hs⟩ | ⟨-, hdue, -⟩ | ⟨-, -, -, hs⟩ | ⟨-, -, hrun, ⟨info, -, hs⟩ | ⟨i, hf, hs⟩⟩
  · cases hs.symm.trans h
  · exact absurd (by simpa [resetDue] using hdue) hreset
  · cases hs.symm.trans h
    exact keepsRecord_of_eq rfl rfl rfl
  · cases hs.symm.trans h
    exact raiseFault_keepsRecord _ _ _
  · have hready : (atBoundary s).ReadyFor i :=
      ⟨hinv.atBoundary, by rw [atBoundary_eq]; exact hrun, (fetch_atBoundary s).trans hf⟩
    exact hready.keepsRecord (by rw [atBoundary_eq]; exact hvalid) (hs.symm.trans h)

/-- Settles O35. -/
theorem recordIsImmutableUntilReset : Obligations.RecordIsImmutableUntilReset := by
  intro s t hinv h hreset hvalid
  obtain ⟨hrec, hvalid', -⟩ := step_keepsRecord hinv hvalid hreset h
  exact ⟨hrec, hvalid'.trans hvalid⟩

end Sys2Proof.Machine
end

section
/-! The identity registers gate nothing (42_calibration.md R142): no op reads `dev_id` or `id_match`, and READ_ID alone writes them.
Every other op commutes with putting other values in the two registers. -/

namespace Sys2Proof.Machine

variable {s t : State}

/-! ### The shared operations -/

/-- This op, or this phase of one, does the same whatever the identity registers hold, and leaves them as they are. -/
def IgnoresIdentity (f : State → Result) : Prop :=
  ∀ s d m, f (s.withIdentity d m) = mapNext (State.withIdentity · d m) (f s)

/-- This change of the state does, too. -/
def UpdateIgnoresIdentity (f : State → State) : Prop :=
  ∀ s d m, f (s.withIdentity d m) = (f s).withIdentity d m

theorem UpdateIgnoresIdentity.next {f : State → State} (h : UpdateIgnoresIdentity f) :
    IgnoresIdentity fun s => .next (f s) :=
  fun s d m => congrArg _ (h s d m)

theorem done_ignoresIdentity : UpdateIgnoresIdentity State.done := fun _ _ _ => rfl

theorem failCycle_ignoresIdentity (c : Cause) : UpdateIgnoresIdentity (State.failCycle · c) := by
  intro s d m
  have hcfg : (s.withIdentity d m).cfg = s.cfg := rfl
  have hfail : (s.withIdentity d m).consecFail = s.consecFail := rfl
  simp only [State.failCycle, hcfg, hfail]
  split <;> rfl

theorem raiseFault_ignoresIdentity (c : Cause) (info : FaultInfo) : UpdateIgnoresIdentity (raiseFault c info) := by
  intro s d m
  have hpolicy : (s.withIdentity d m).cfg.failPolicy = s.cfg.failPolicy := rfl
  unfold raiseFault
  rw [hpolicy]
  split
  · rfl
  · exact failCycle_ignoresIdentity c (s.saveFault c info) d m
  all_goals rfl

theorem seqFault_ignoresIdentity (op : Byte) : UpdateIgnoresIdentity (seqFault op) := raiseFault_ignoresIdentity _ _

theorem divFault_ignoresIdentity (op : Byte) : UpdateIgnoresIdentity (divFault op) := raiseFault_ignoresIdentity _ _

theorem busFault_ignoresIdentity (op ptr : Byte) (k : ErrKind) : UpdateIgnoresIdentity (busFault op ptr k) :=
  raiseFault_ignoresIdentity _ _

/-- A transaction does when what follows either answer does. -/
theorem transact_ignoresIdentity {onOk : Byte → Byte → State → State} {onErr : ErrKind → State → State}
    (hok : ∀ b0 b1, UpdateIgnoresIdentity (onOk b0 b1)) (herr : ∀ k, UpdateIgnoresIdentity (onErr k)) (req : BusReq) :
    IgnoresIdentity fun s => transact req s onOk onErr := by
  intro s d m
  have hbus : (s.withIdentity d m).busIn = s.busIn := rfl
  simp only [transact, hbus]
  split
  · exact congrArg _ (hok _ _ (s.answered _ _ _) d m)
  · exact congrArg _ (herr _ (s.answered _ _ _) d m)
  · rfl
  · rfl

/-- So does a case distinction that does not read the two registers. -/
theorem ite_ignoresIdentity {P : State → Prop} [DecidablePred P] {f g : State → Result}
    (hP : ∀ s d m, P (s.withIdentity d m) ↔ P s) (hf : IgnoresIdentity f) (hg : IgnoresIdentity g) :
    IgnoresIdentity fun s => if P s then f s else g s := by
  intro s d m
  rw [mapNext_ite]
  exact if_congr (hP s d m) (hf s d m) (hg s d m)

/-! ### Scanner, calibration and sequencer ops -/

theorem execReport_ignoresIdentity (tag : ReportTag) : IgnoresIdentity (execReport tag) := by
  intro s d m
  have hrec : (s.withIdentity d m).recordFor tag = s.recordFor tag := by cases tag <;> rfl
  unfold execReport reportHeld
  rw [hrec]
  split
  · rfl
  · exact (seqFault_ignoresIdentity _).next s d m

theorem probed_ignoresIdentity (a : BusAddr) (ack : Bool) : UpdateIgnoresIdentity (State.probed · a ack) := by
  intro s d m
  cases ack <;> rfl

theorem execProbe_ignoresIdentity (a : BusAddr) : IgnoresIdentity (execProbe a) := fun s =>
  transact_ignoresIdentity (fun _ _ u d m => congrArg State.done (probed_ignoresIdentity a true u d m))
    (fun _ u d m => congrArg State.done (probed_ignoresIdentity a false u d m)) (probeReq s.cfg a) s

theorem scanned_ignoresIdentity (a : BitVec 8) (ack : Bool) : UpdateIgnoresIdentity (State.scanned · a ack) := by
  intro s d m
  have hprobed (b : BusAddr) := probed_ignoresIdentity b ack s d m
  beta_reduce at hprobed ⊢
  by_cases ha : a = scanLast
  · rw [ha, scanned_last, scanned_last, hprobed]
    rfl
  · rw [scanned_of_ne_last ha, scanned_of_ne_last ha, hprobed]
    rfl

theorem execScan_ignoresIdentity : IgnoresIdentity execScan := fun s =>
  transact_ignoresIdentity (fun _ _ => scanned_ignoresIdentity s.scanTarget true)
    (fun _ => scanned_ignoresIdentity s.scanTarget false) (probeReq s.cfg (s.scanTarget.setWidth 7)) s

theorem execReadReg16_ignoresIdentity (p : Byte) (slot : Slot) : IgnoresIdentity (execReadReg16 p slot) :=
  transact_ignoresIdentity (fun _ _ _ _ _ => rfl) (busFault_ignoresIdentity _ p) _

theorem execCommitCalib_ignoresIdentity : IgnoresIdentity execCommitCalib := by
  refine ite_ignoresIdentity (fun _ _ _ => Iff.rfl) (seqFault_ignoresIdentity _).next fun s d m => ?_
  have hstage : (s.withIdentity d m).calStage = s.calStage := rfl
  rw [hstage]
  split
  · rfl
  · exact (seqFault_ignoresIdentity _).next s d m

theorem enterCalib_ignoresIdentity : UpdateIgnoresIdentity State.enterCalib := by
  intro s d m
  rw [enterCalib_eq, enterCalib_eq]
  rfl

theorem calibRead_ignoresIdentity (slot : Slot) (j : BitVec 3) (b0 b1 : Byte) :
    UpdateIgnoresIdentity (State.calibRead · slot j b0 b1) := by
  intro s d m
  unfold State.calibRead
  beta_reduce
  rw [enterCalib_ignoresIdentity]
  rfl

theorem commitAndReport_ignoresIdentity : IgnoresIdentity commitAndReport := by
  intro s d m
  have hstage : (s.withIdentity d m).calStage = s.calStage := rfl
  unfold commitAndReport
  rw [hstage]
  split
  · rfl
  · exact (seqFault_ignoresIdentity _).next s d m

theorem execReadCalib_ignoresIdentity : IgnoresIdentity execReadCalib := by
  refine ite_ignoresIdentity (fun _ _ _ => Iff.rfl) (seqFault_ignoresIdentity _).next fun s d m => ?_
  have hstep : (s.withIdentity d m).calibStep = s.calibStep := rfl
  rw [hstep]
  split
  next slot _ =>
    have herr (k : ErrKind) : UpdateIgnoresIdentity fun u => busFault 0x07#8 (slotPtr slot) k u.enterCalib := by
      intro u d m
      beta_reduce
      rw [enterCalib_ignoresIdentity, busFault_ignoresIdentity]
    exact transact_ignoresIdentity (calibRead_ignoresIdentity slot s.calibStep) herr _ s d m
  next => exact commitAndReport_ignoresIdentity s d m

/-! ### The measurement's phases and ops -/

section Phases

variable {op : Byte} {fin : State → State} (hfin : UpdateIgnoresIdentity fin)
include hfin

theorem triggerPhase_ignoresIdentity : IgnoresIdentity (triggerPhase op fin) :=
  transact_ignoresIdentity (fun _ _ u => hfin { u with rawValid := false, measState := .triggered })
    (fun k u => busFault_ignoresIdentity op regCtrl k { u with rawValid := false }) _

theorem awaitPhase_ignoresIdentity : IgnoresIdentity (awaitPhase fin) :=
  ite_ignoresIdentity (P := fun s => s.timerSignal = true) (fun _ _ _ => Iff.rfl)
    (fun s d m => congrArg _ (hfin { s.takeElapsed with measState := .readMsb } d m)) fun _ _ _ => rfl

theorem msbPhase_ignoresIdentity : IgnoresIdentity (msbPhase op fin) :=
  transact_ignoresIdentity (fun b _ u => hfin { u with raw := some (rawFromMsb b), measState := .readLsb })
    (busFault_ignoresIdentity op regMsb) _

theorem lsbPhase_ignoresIdentity : IgnoresIdentity (lsbPhase op fin) := by
  intro s d m
  have hraw : (s.withIdentity d m).raw = s.raw := rfl
  unfold lsbPhase
  rw [hraw]
  split
  next => exact (seqFault_ignoresIdentity op).next s d m
  next raw _ =>
    exact transact_ignoresIdentity
      (fun b _ u => hfin { u with raw := some (rawWithLsb raw b), rawValid := true, measState := .complete })
      (busFault_ignoresIdentity op regLsb) _ s d m

end Phases

theorem beginMeasure_ignoresIdentity : UpdateIgnoresIdentity State.beginMeasure := fun _ _ _ => rfl

theorem id_ignoresIdentity : UpdateIgnoresIdentity id := fun _ _ _ => rfl

theorem execTrigger_ignoresIdentity : IgnoresIdentity execTrigger :=
  ite_ignoresIdentity (fun _ _ _ => Iff.rfl) (triggerPhase_ignoresIdentity done_ignoresIdentity)
    (seqFault_ignoresIdentity _).next

theorem execWaitConv_ignoresIdentity : IgnoresIdentity execWaitConv :=
  ite_ignoresIdentity (fun _ _ _ => Iff.rfl) (awaitPhase_ignoresIdentity done_ignoresIdentity)
    (ite_ignoresIdentity (fun _ _ _ => Iff.rfl) (fun _ _ _ => rfl) (seqFault_ignoresIdentity _).next)

theorem execReadMsb_ignoresIdentity : IgnoresIdentity execReadMsb :=
  ite_ignoresIdentity (fun _ _ _ => Iff.rfl) (msbPhase_ignoresIdentity done_ignoresIdentity)
    (seqFault_ignoresIdentity _).next

theorem execReadLsb_ignoresIdentity : IgnoresIdentity execReadLsb :=
  ite_ignoresIdentity (fun _ _ _ => Iff.rfl) (lsbPhase_ignoresIdentity done_ignoresIdentity)
    (seqFault_ignoresIdentity _).next

theorem measureOn_ignoresIdentity : IgnoresIdentity measureOn := by
  intro s d m
  have hmeas : (s.withIdentity d m).measState = s.measState := rfl
  unfold measureOn
  rw [hmeas]
  cases s.measState with
  | triggered | idle | complete => rfl
  | converting => exact awaitPhase_ignoresIdentity id_ignoresIdentity s d m
  | readMsb => exact msbPhase_ignoresIdentity id_ignoresIdentity s d m
  | readLsb => exact lsbPhase_ignoresIdentity done_ignoresIdentity s d m

theorem execMeasure_ignoresIdentity : IgnoresIdentity execMeasure :=
  ite_ignoresIdentity (fun _ _ _ => Iff.rfl) measureOn_ignoresIdentity
    (ite_ignoresIdentity (fun _ _ _ => Iff.rfl) (triggerPhase_ignoresIdentity beginMeasure_ignoresIdentity)
      (seqFault_ignoresIdentity _).next)

/-! ### The compensation ops -/

theorem execCmpX1_ignoresIdentity : IgnoresIdentity execCmpX1 := by
  intro s d m
  have hraw : (s.withIdentity d m).validRaw = s.validRaw := rfl
  have hcal : (s.withIdentity d m).validCal = s.validCal := rfl
  unfold execCmpX1
  rw [hraw, hcal]
  split
  · rfl
  · exact (seqFault_ignoresIdentity _).next s d m

theorem execCmpX2_ignoresIdentity : IgnoresIdentity execCmpX2 := by
  intro s d m
  have hx1 : (s.withIdentity d m).x1 = s.x1 := rfl
  have hcal : (s.withIdentity d m).validCal = s.validCal := rfl
  unfold execCmpX2
  rw [hx1, hcal]
  split
  · rw [mapNext_ite]
    exact if_congr Iff.rfl ((divFault_ignoresIdentity _).next s d m) rfl
  · exact (seqFault_ignoresIdentity _).next s d m

theorem execCmpB5_ignoresIdentity : IgnoresIdentity execCmpB5 := by
  intro s d m
  have hx1 : (s.withIdentity d m).x1 = s.x1 := rfl
  have hx2 : (s.withIdentity d m).x2 = s.x2 := rfl
  unfold execCmpB5
  rw [hx1, hx2]
  split
  · rfl
  · exact (seqFault_ignoresIdentity _).next s d m

theorem execCmpT_ignoresIdentity : IgnoresIdentity execCmpT := by
  intro s d m
  have hb5 : (s.withIdentity d m).b5 = s.b5 := rfl
  unfold execCmpT
  rw [hb5]
  split
  · rfl
  · exact (seqFault_ignoresIdentity _).next s d m

theorem execCompensate_ignoresIdentity : IgnoresIdentity execCompensate := by
  intro s d m
  have hraw : (s.withIdentity d m).validRaw = s.validRaw := rfl
  have hcal : (s.withIdentity d m).validCal = s.validCal := rfl
  unfold execCompensate
  rw [hraw, hcal]
  split
  · split
    · rfl
    · exact (divFault_ignoresIdentity _).next s d m
  · exact (seqFault_ignoresIdentity _).next s d m

/-- Every op but READ_ID. -/
theorem exec_ignoresIdentity {i : Instr} (hi : i ≠ .readId) : IgnoresIdentity (exec i) := by
  cases i with
  | report tag => exact execReport_ignoresIdentity tag
  | probe a => exact execProbe_ignoresIdentity a
  | scan => exact execScan_ignoresIdentity
  | readId => exact absurd rfl hi
  | readReg16 p slot => exact execReadReg16_ignoresIdentity p slot
  | commitCalib => exact execCommitCalib_ignoresIdentity
  | readCalib => exact execReadCalib_ignoresIdentity
  | trigger => exact execTrigger_ignoresIdentity
  | waitConv => exact execWaitConv_ignoresIdentity
  | readMsb => exact execReadMsb_ignoresIdentity
  | readLsb => exact execReadLsb_ignoresIdentity
  | measure => exact execMeasure_ignoresIdentity
  | cmpX1 => exact execCmpX1_ignoresIdentity
  | cmpX2 => exact execCmpX2_ignoresIdentity
  | cmpB5 => exact execCmpB5_ignoresIdentity
  | cmpT => exact execCmpT_ignoresIdentity
  | compensate => exact execCompensate_ignoresIdentity
  | jmp _ | halt => exact fun _ _ _ => rfl

/-! ### READ_ID -/

/-- What a byte of the identification register leaves does not depend on what the two registers held (R141). -/
theorem identified_withIdentity (s : State) (b : Byte) (d : Option Byte) (m : Bool) :
    (s.withIdentity d m).identified b = (s.identified b).withIdentity (some b) (idMatches b) := by
  unfold State.identified
  split <;> rfl

/-- A failed identity read keeps `dev_id`, and clears `id_match` where it is no fault (R141, R143). -/
theorem idReadFailed_withIdentity (s : State) (k : ErrKind) (d : Option Byte) (m : Bool) :
    ∃ m', (s.withIdentity d m).idReadFailed k = (s.idReadFailed k).withIdentity d m' := by
  cases hmode : s.cfg.idReadFailMode with
  | fatal =>
    refine ⟨m, ?_⟩
    rw [idReadFailed_fatal hmode, idReadFailed_fatal (by exact hmode), busFault_ignoresIdentity]
  | reportUndetected =>
    refine ⟨false, ?_⟩
    rw [idReadFailed_reported hmode, idReadFailed_reported (by exact hmode)]
    rfl

theorem exec_readId_withIdentity (h : exec .readId s = .next t) (devId : Option Byte) (idMatch : Bool) :
    ∃ d m, exec .readId (s.withIdentity devId idMatch) = .next (t.withIdentity d m) := by
  rcases execReadId_next h with ⟨b, b1, u, ha, rfl⟩ | ⟨k, u, ha, rfl⟩ | hw
  · cases ha with | @ack _ _ rest hbus => ?_
    refine ⟨some b, idMatches b, (exec_readId_ack (by exact hbus)).trans ?_⟩
    exact congrArg (Host.Outcome.next ∘ State.done) (identified_withIdentity (s.answered _ _ rest) b devId idMatch)
  · cases ha with | @nack _ rest hbus => ?_
    obtain ⟨m, hm⟩ := idReadFailed_withIdentity (s.answered (readReq regId 1) (.err k) rest) k devId idMatch
    exact ⟨devId, m, (exec_readId_nack (by exact hbus)).trans (congrArg _ hm)⟩
  · refine ⟨devId, idMatch, ?_⟩
    cases hw with
    | hold hbus => rw [exec, execReadId, transact_hold (by exact hbus)]; rfl
    | silent hbus => rw [exec, execReadId, transact_silent (by exact hbus)]; rfl

/-- Settles O36: READ_ID by its answers, every other op by `exec_ignoresIdentity`. -/
theorem identityGatesNothing : Obligations.IdentityGatesNothing := by
  intro i s t devId idMatch h
  by_cases hi : i = .readId
  · subst hi
    exact exec_readId_withIdentity h devId idMatch
  · exact ⟨devId, idMatch, by rw [exec_ignoresIdentity hi, h, mapNext_next]⟩

end Sys2Proof.Machine
end

section
/-! The measurement protocol on the trace (43_measurement.md R160, R166, R168; 70_reset_and_hazards.md R286, R287). Where
`meas_state` is what the trace says, the events of an op and its writes to `meas_state` go together: a transaction of the cycle,
a timer event and CYCLE_ERROR move both alike, and every other event moves neither. -/

namespace Sys2Proof.Machine

variable {s t : State} {i : Instr}

/-! ### Where a trace stands -/

theorem protocolState_append (es : List Event) (e : Event) :
    protocolState (es ++ [e]) = (protocolState es).bind (protocolEvent · e) := by
  simp [protocolState]

/-- `meas_state` is where the trace says. -/
def State.OnProtocol (s : State) : Prop :=
  protocolState s.trace = some s.measState

/-- The trace is in order, and a running block is where it says: what `State.ProtocolKept` asks beyond `State.Inv`. -/
def State.FollowsProtocol (s : State) : Prop :=
  (protocolState s.trace).isSome = true ∧ (s.runState = .running → s.OnProtocol)

theorem State.OnProtocol.follows (h : s.OnProtocol) : s.FollowsProtocol :=
  ⟨Option.isSome_iff_exists.mpr ⟨_, h⟩, fun _ => h⟩

theorem followsProtocol_of_halted {m : MeasState} (htrace : protocolState s.trace = some m) (hh : s.runState = .halted) :
    s.FollowsProtocol :=
  ⟨Option.isSome_iff_exists.mpr ⟨m, htrace⟩, fun hrun => by simp [hh] at hrun⟩

theorem State.OnProtocol.event (h : s.OnProtocol) {e : Event} {m : MeasState}
    (he : protocolEvent s.measState e = some m) : protocolState (s.trace ++ [e]) = some m := by
  rw [protocolState_append, h]
  exact he

/-- A record that is no CYCLE_ERROR leaves the cycle where it stands. -/
theorem State.OnProtocol.emit (h : s.OnProtocol) {r : Record}
    (hr : protocolEvent s.measState (.report r) = some s.measState) : (s.emit r).OnProtocol :=
  h.event hr

theorem State.OnProtocol.done (h : s.OnProtocol) : s.done.OnProtocol := h

/-! ### Faults (R258) -/

/-- A fault halts, or puts the cycle and, by CYCLE_ERROR, the protocol to IDLE. -/
theorem State.OnProtocol.raiseFault (h : s.OnProtocol) (c : Cause) (info : FaultInfo) :
    (raiseFault c info s).FollowsProtocol := by
  rcases raiseFault_cases c info s with ⟨-, he⟩ | he | ⟨-, -, he⟩ <;> rw [he]
  · exact h.follows
  · exact followsProtocol_of_halted h rfl
  · have hidle : protocolState (s.trace ++ [.report (.cycleError c)]) = some .idle := h.event rfl
    rcases failCycle_cases c (s.saveFault c info) with he | he <;> rw [he]
    · exact followsProtocol_of_halted hidle rfl
    · exact State.OnProtocol.follows hidle

theorem State.OnProtocol.seqFault (h : s.OnProtocol) (op : Byte) : (seqFault op s).FollowsProtocol := h.raiseFault _ _

theorem State.OnProtocol.divFault (h : s.OnProtocol) (op : Byte) : (divFault op s).FollowsProtocol := h.raiseFault _ _

theorem State.OnProtocol.busFault (h : s.OnProtocol) (op ptr : Byte) (k : ErrKind) :
    (busFault op ptr k s).FollowsProtocol := h.raiseFault _ _

/-! ### Transactions -/

/-- A transaction that the protocol allows, and that moves it to `m` where it succeeds, follows the protocol when what comes after
either answer does. -/
theorem State.OnProtocol.transaction (h : s.OnProtocol) {req : BusReq} {m : MeasState}
    {onOk : Byte → Byte → State → State} {onErr : ErrKind → State → State}
    (hreq : ∀ rdata, protocolEvent s.measState (.bus req (.ok rdata)) = some m)
    (hreq' : ∀ k, protocolEvent s.measState (.bus req (.err k)) = some s.measState)
    (hok : ∀ b0 b1 resp rest, protocolState (s.answered req resp rest).trace = some m →
      (onOk b0 b1 (s.answered req resp rest)).FollowsProtocol)
    (herr : ∀ k u, u.OnProtocol → (onErr k u).FollowsProtocol)
    (hnext : (∃ b0 b1 u, Answered req s (.inl (b0, b1)) u ∧ t = onOk b0 b1 u) ∨
      (∃ k u, Answered req s (.inr k) u ∧ t = onErr k u) ∨ Awaiting req s t) : t.FollowsProtocol := by
  rcases hnext with ⟨b0, b1, u, ⟨-⟩, rfl⟩ | ⟨k, u, ⟨-⟩, rfl⟩ | ⟨-⟩ | ⟨-⟩
  · exact hok b0 b1 _ _ (h.event (hreq _))
  · exact herr k (s.answered _ _ _) (h.event (hreq' k))
  · exact State.OnProtocol.follows h
  · exact State.OnProtocol.follows h

/-- The request is none of the cycle's three. -/
def BusReq.OutsideCycle (req : BusReq) : Prop :=
  req ≠ triggerReq ∧ req ≠ readReq 0xF6#8 1 ∧ req ≠ readReq 0xF7#8 1

theorem probeReq_outsideCycle (c : Config) (a : BusAddr) : (probeReq c a).OutsideCycle := by
  simp [BusReq.OutsideCycle, probeReq, triggerReq, readReq]

theorem readReq_outsideCycle {p : Byte} {n : Nat} (h : n ≠ 1 ∨ p = regId) : (readReq p n).OutsideCycle := by
  rcases h with h | rfl <;> simp_all [BusReq.OutsideCycle, triggerReq, readReq, regId]

theorem BusReq.OutsideCycle.protocolEvent_eq {req : BusReq} (h : req.OutsideCycle) (p : MeasState) (resp : BusResp) :
    protocolEvent p (.bus req resp) = some p := by
  obtain ⟨htrigger, hmsb, hlsb⟩ := h
  simp [protocolEvent, htrigger, hmsb, hlsb]

/-- A transaction outside the cycle. -/
theorem State.OnProtocol.outside (h : s.OnProtocol) {req : BusReq} {onOk : Byte → Byte → State → State}
    {onErr : ErrKind → State → State} (hreq : req.OutsideCycle)
    (hok : ∀ b0 b1 u, u.OnProtocol → (onOk b0 b1 u).FollowsProtocol)
    (herr : ∀ k u, u.OnProtocol → (onErr k u).FollowsProtocol)
    (hnext : (∃ b0 b1 u, Answered req s (.inl (b0, b1)) u ∧ t = onOk b0 b1 u) ∨
      (∃ k u, Answered req s (.inr k) u ∧ t = onErr k u) ∨ Awaiting req s t) : t.FollowsProtocol :=
  h.transaction (fun _ => hreq.protocolEvent_eq _ _) (fun _ => hreq.protocolEvent_eq _ _)
    (fun b0 b1 resp rest => hok b0 b1 (s.answered req resp rest)) herr hnext

/-! ### Sequencer, scanner and calibration -/

theorem State.OnProtocol.execReport {tag : ReportTag} (hs : s.OnProtocol) (h : execReport tag s = .next t) :
    t.FollowsProtocol := by
  rcases execReport_next h with ⟨r, hr, rfl⟩ | ⟨-, rfl⟩
  · refine State.OnProtocol.follows (hs.emit ?_)
    cases r with
    | cycleError c => cases tag <;> simp [State.recordFor] at hr
    | _ => rfl
  · exact hs.seqFault _

theorem State.OnProtocol.probed (h : s.OnProtocol) (a : BusAddr) (ack : Bool) : (s.probed a ack).OnProtocol := by
  cases ack with
  | true => exact h.event rfl
  | false => exact h

theorem State.OnProtocol.scanned (h : s.OnProtocol) (a : BitVec 8) (ack : Bool) : (s.scanned a ack).OnProtocol := by
  by_cases ha : a = scanLast
  · rw [ha, scanned_last]
    exact h.probed _ ack
  · rw [scanned_of_ne_last ha]
    exact h.probed _ ack

theorem State.OnProtocol.execProbe {a : BusAddr} (hs : s.OnProtocol) (h : execProbe a s = .next t) :
    t.FollowsProtocol :=
  hs.outside (probeReq_outsideCycle _ a) (fun _ _ _ hu => (hu.probed a true).done.follows)
    (fun _ _ hu => (hu.probed a false).done.follows) (execProbe_next h)

theorem State.OnProtocol.execScan (hs : s.OnProtocol) (h : execScan s = .next t) : t.FollowsProtocol :=
  hs.outside (probeReq_outsideCycle _ _) (fun _ _ _ hu => (hu.scanned _ true).follows)
    (fun _ _ hu => (hu.scanned _ false).follows) (execScan_next h)

theorem State.OnProtocol.identified (h : s.OnProtocol) (b : Byte) : (s.identified b).OnProtocol := by
  unfold State.identified
  split <;> exact h.event rfl

theorem State.OnProtocol.idReadFailed (h : s.OnProtocol) (k : ErrKind) : (s.idReadFailed k).FollowsProtocol := by
  unfold State.idReadFailed
  split
  · exact h.busFault _ _ k
  · exact State.OnProtocol.follows (h.emit rfl)

theorem State.OnProtocol.execReadId (hs : s.OnProtocol) (h : execReadId s = .next t) : t.FollowsProtocol :=
  hs.outside (readReq_outsideCycle (.inr rfl)) (fun b _ _ hu => (hu.identified b).done.follows)
    (fun k _ hu => hu.idReadFailed k) (execReadId_next h)

theorem State.OnProtocol.stage (h : s.OnProtocol) (slot : Slot) (b0 b1 : Byte) : (s.stage slot b0 b1).OnProtocol := h

theorem State.OnProtocol.execReadReg16 {p : Byte} {slot : Slot} (hs : s.OnProtocol)
    (h : execReadReg16 p slot s = .next t) : t.FollowsProtocol :=
  hs.outside (readReq_outsideCycle (n := 2) (.inl (by decide)))
    (fun b0 b1 _ hu => (hu.stage slot b0 b1).done.follows) (fun k _ hu => hu.busFault _ p k) (execReadReg16_next h)

theorem State.OnProtocol.execCommitCalib (hs : s.OnProtocol) (h : execCommitCalib s = .next t) : t.FollowsProtocol := by
  rcases execCommitCalib_next h with ⟨-, -, cal, -, rfl⟩ | ⟨-, rfl⟩
  · exact State.OnProtocol.follows hs
  · exact hs.seqFault _

theorem State.OnProtocol.enterCalib (h : s.OnProtocol) : s.enterCalib.OnProtocol := by
  rw [enterCalib_eq]
  exact h

theorem State.OnProtocol.calibRead (h : s.OnProtocol) (slot : Slot) (j : BitVec 3) (b0 b1 : Byte) :
    (s.calibRead slot j b0 b1).OnProtocol := h.enterCalib

theorem State.OnProtocol.calibRecords (h : s.OnProtocol) (cal : CalRec) : (s.log (calibRecords cal)).OnProtocol := by
  have hfour : ((((s.emit (.ac5 cal.ac5)).emit (.ac6 cal.ac6)).emit (.mc cal.mc)).emit (.md cal.md)).OnProtocol :=
    (((h.emit rfl).emit rfl).emit rfl).emit rfl
  simpa [State.emit, State.log, Machine.calibRecords] using hfour

theorem State.OnProtocol.execReadCalib (hs : s.OnProtocol) (h : execReadCalib s = .next t) : t.FollowsProtocol := by
  rcases execReadCalib_next h with ⟨-, -, rfl⟩ | ⟨-, ⟨slot, -, hnext⟩ | ⟨-, ⟨cal, -, rfl⟩ | ⟨-, rfl⟩⟩⟩
  · exact hs.seqFault _
  · exact hs.outside (readReq_outsideCycle (n := 2) (.inl (by decide)))
      (fun b0 b1 _ hu => (hu.calibRead slot _ b0 b1).follows) (fun k _ hu => hu.enterCalib.busFault _ _ k) hnext
  · exact State.OnProtocol.follows (State.OnProtocol.calibRecords (s := s.commit cal) hs cal)
  · exact hs.seqFault _

/-! ### The measurement: each phase moves the cycle and the protocol alike -/

section Phases

variable {op : Byte} {fin : State → State} (hfin : ∀ u, u.OnProtocol → (fin u).OnProtocol)
include hfin

theorem State.OnProtocol.triggerPhase (hs : s.OnProtocol) (hm : s.measState.mayTrigger = true)
    (h : triggerPhase op fin s = .next t) : t.FollowsProtocol := by
  refine hs.transaction (m := .triggered) ?_ ?_ ?_ ?_ (triggerPhase_next h)
  · simp [protocolEvent, hm]
  · simp [protocolEvent, hm]
  · exact fun _ _ _ _ hu => State.OnProtocol.follows (hfin _ hu)
  · exact fun k u hu => State.OnProtocol.busFault (s := { u with rawValid := false }) hu _ _ k

theorem State.OnProtocol.awaitPhase (hs : s.OnProtocol) (hm : s.measState = .converting)
    (h : awaitPhase fin s = .next t) : t.FollowsProtocol := by
  rcases awaitPhase_next h with ⟨-, rfl⟩ | ⟨-, rfl⟩
  · have hmoved : protocolState (s.trace ++ [.timerElapsed]) = some .readMsb := hs.event (by simp [protocolEvent, hm])
    exact State.OnProtocol.follows (hfin _ hmoved)
  · exact hs.follows

theorem State.OnProtocol.msbPhase (hs : s.OnProtocol) (hm : s.measState = .readMsb)
    (h : msbPhase op fin s = .next t) : t.FollowsProtocol := by
  refine hs.transaction (m := .readLsb) ?_ ?_ ?_ ?_ (msbPhase_next h)
  · simp [protocolEvent, hm, readReq, triggerReq, regMsb]
  · simp [protocolEvent, hm, readReq, triggerReq, regMsb]
  · exact fun _ _ _ _ hu => State.OnProtocol.follows (hfin _ hu)
  · exact fun k u hu => hu.busFault _ _ k

theorem State.OnProtocol.lsbPhase (hs : s.OnProtocol) (hm : s.measState = .readLsb)
    (h : lsbPhase op fin s = .next t) : t.FollowsProtocol := by
  rcases lsbPhase_next h with ⟨-, rfl⟩ | ⟨raw, -, hnext⟩
  · exact hs.seqFault _
  · refine hs.transaction (m := .complete) ?_ ?_ ?_ ?_ hnext
    · simp [protocolEvent, hm, readReq, triggerReq, regLsb]
    · simp [protocolEvent, hm, readReq, triggerReq, regLsb]
    · exact fun _ _ _ _ hu => State.OnProtocol.follows (hfin _ hu)
    · exact fun k u hu => hu.busFault _ _ k

end Phases

theorem State.OnProtocol.startPhase (hs : s.OnProtocol) (hm : s.measState = .triggered) : (startPhase s).OnProtocol :=
  hs.event (e := .timerStart) (m := .converting) (by simp [protocolEvent, hm])

theorem State.OnProtocol.execTrigger (hs : s.OnProtocol) (h : execTrigger s = .next t) : t.FollowsProtocol := by
  rcases execTrigger_next h with ⟨hm, hp⟩ | ⟨-, rfl⟩
  · exact hs.triggerPhase (fun _ hu => hu.done) hm hp
  · exact hs.seqFault _

/-- WAIT_CONV in progress is in CONVERTING: the one place where the protocol rests on `State.Inv` (R163, R221). -/
theorem State.OnProtocol.execWaitConv (hs : s.OnProtocol) (hready : s.ReadyFor .waitConv)
    (h : execWaitConv s = .next t) : t.FollowsProtocol := by
  rcases execWaitConv_next h with ⟨hb, hp⟩ | ⟨-, hm, rfl⟩ | ⟨-, -, rfl⟩
  · exact hs.awaitPhase (fun _ hu => hu.done) (hready.in_progress hb) hp
  · exact State.OnProtocol.follows (hs.startPhase hm)
  · exact hs.seqFault _

theorem State.OnProtocol.execReadMsb (hs : s.OnProtocol) (h : execReadMsb s = .next t) : t.FollowsProtocol := by
  rcases execReadMsb_next h with ⟨hm, hp⟩ | ⟨-, rfl⟩
  · exact hs.msbPhase (fun _ hu => hu.done) hm hp
  · exact hs.seqFault _

theorem State.OnProtocol.execReadLsb (hs : s.OnProtocol) (h : execReadLsb s = .next t) : t.FollowsProtocol := by
  rcases execReadLsb_next h with ⟨hm, hp⟩ | ⟨-, rfl⟩
  · exact hs.lsbPhase (fun _ hu => hu.done) hm hp
  · exact hs.seqFault _

theorem State.OnProtocol.execMeasure (hs : s.OnProtocol) (h : execMeasure s = .next t) : t.FollowsProtocol := by
  rcases execMeasure_next h with
    ⟨-, hm, hp⟩ | ⟨-, -, rfl⟩ | ⟨-, ⟨hm, rfl⟩ | ⟨hm, hp⟩ | ⟨hm, hp⟩ | ⟨hm, hp⟩ | ⟨-, rfl⟩⟩
  · exact hs.triggerPhase (fin := State.beginMeasure) (fun _ hu => hu) hm hp
  · exact hs.seqFault _
  · exact (hs.startPhase hm).follows
  · exact hs.awaitPhase (fun _ hu => hu) hm hp
  · exact hs.msbPhase (fun _ hu => hu) hm hp
  · exact hs.lsbPhase (fun _ hu => hu.done) hm hp
  · exact hs.follows

/-! ### The compensation -/

theorem State.OnProtocol.execCmpX1 (hs : s.OnProtocol) (h : execCmpX1 s = .next t) : t.FollowsProtocol := by
  rcases execCmpX1_next h with ⟨raw, cal, -, -, rfl⟩ | ⟨-, rfl⟩
  · exact State.OnProtocol.follows hs
  · exact hs.seqFault _

theorem State.OnProtocol.execCmpX2 (hs : s.OnProtocol) (h : execCmpX2 s = .next t) : t.FollowsProtocol := by
  rcases execCmpX2_next h with ⟨x1, cal, -, -, ⟨-, rfl⟩ | ⟨-, rfl⟩⟩ | ⟨-, rfl⟩
  · exact hs.divFault _
  · exact State.OnProtocol.follows hs
  · exact hs.seqFault _

theorem State.OnProtocol.execCmpB5 (hs : s.OnProtocol) (h : execCmpB5 s = .next t) : t.FollowsProtocol := by
  rcases execCmpB5_next h with ⟨x1, x2, -, -, rfl⟩ | ⟨-, rfl⟩
  · exact State.OnProtocol.follows hs
  · exact hs.seqFault _

theorem State.OnProtocol.execCmpT (hs : s.OnProtocol) (h : execCmpT s = .next t) : t.FollowsProtocol := by
  rcases execCmpT_next h with ⟨b5, -, rfl⟩ | ⟨-, rfl⟩
  · exact State.OnProtocol.follows hs
  · exact hs.seqFault _

theorem State.OnProtocol.execCompensate (hs : s.OnProtocol) (h : execCompensate s = .next t) : t.FollowsProtocol := by
  rcases execCompensate_next h with ⟨raw, cal, -, -, ⟨x1, x2, b5, v, -, rfl⟩ | ⟨x1, -, rfl⟩⟩ | ⟨-, rfl⟩
  · exact State.OnProtocol.follows hs
  · exact hs.divFault _
  · exact hs.seqFault _

/-! ### Every op and every step -/

theorem State.OnProtocol.exec (hs : s.OnProtocol) (hready : s.ReadyFor i) (h : exec i s = .next t) :
    t.FollowsProtocol := by
  cases i with
  | report tag => exact hs.execReport h
  | probe a => exact hs.execProbe h
  | scan => exact hs.execScan h
  | readId => exact hs.execReadId h
  | readReg16 p slot => exact hs.execReadReg16 h
  | commitCalib => exact hs.execCommitCalib h
  | readCalib => exact hs.execReadCalib h
  | trigger => exact hs.execTrigger h
  | waitConv => exact hs.execWaitConv hready h
  | readMsb => exact hs.execReadMsb h
  | readLsb => exact hs.execReadLsb h
  | measure => exact hs.execMeasure h
  | cmpX1 => exact hs.execCmpX1 h
  | cmpX2 => exact hs.execCmpX2 h
  | cmpB5 => exact hs.execCmpB5 h
  | cmpT => exact hs.execCmpT h
  | compensate => exact hs.execCompensate h
  | jmp _ | halt => cases h; exact State.OnProtocol.follows hs

/-- A reset puts the cycle and, by its event, the protocol to IDLE, from any trace in order (R281). -/
theorem hostReset_followsProtocol (hs : (protocolState s.trace).isSome = true) (h : hostReset s = .next t) :
    t.FollowsProtocol := by
  obtain ⟨p, hp⟩ := Option.isSome_iff_exists.mp hs
  unfold hostReset at h
  split at h <;> cases h
  have hidle : protocolState (s.trace ++ [.reset]) = some .idle := by
    rw [protocolState_append, hp]
    rfl
  exact State.OnProtocol.follows hidle

/-- A boundary writes neither the trace, nor `meas_state`, nor `run_state`. -/
theorem atBoundary_followsProtocol : (atBoundary s).FollowsProtocol ↔ s.FollowsProtocol := by
  rw [atBoundary_eq]
  exact Iff.rfl

theorem State.FollowsProtocol.step (hinv : s.Inv) (hs : s.FollowsProtocol) (h : step s = .next t) :
    t.FollowsProtocol := by
  have hb : (atBoundary s).FollowsProtocol := atBoundary_followsProtocol.mpr hs
  rcases step_cases s with
    ⟨-, he⟩ | ⟨-, -, he⟩ | ⟨-, -, -, he⟩ | ⟨-, -, hrun, hop⟩
  · cases he.symm.trans h
  · exact hostReset_followsProtocol hs.1 (he.symm.trans h)
  · cases he.symm.trans h
    exact hb
  · have hrun' : (atBoundary s).runState = .running := by rw [atBoundary_eq]; exact hrun
    have hon : (atBoundary s).OnProtocol := hb.2 hrun'
    rcases hop with ⟨info, -, he⟩ | ⟨i, hf, he⟩
    · cases he.symm.trans h
      exact hon.raiseFault _ _
    · exact hon.exec ⟨hinv.atBoundary, hrun', (fetch_atBoundary s).trans hf⟩ (he.symm.trans h)

/-- Settles O59: the state stays consistent (O57), and by the cases of a step the trace and `meas_state` stay together. -/
theorem stepKeepsTheMeasurementProtocol : Obligations.StepKeepsTheMeasurementProtocol := by
  rintro s t ⟨hinv, horder, hstep⟩ h
  obtain ⟨horder', hstep'⟩ := State.FollowsProtocol.step hinv ⟨horder, hstep⟩ h
  exact ⟨stepKeepsTheStateConsistent s t hinv h, horder', hstep'⟩

end Sys2Proof.Machine
end

section
/-! The measurement ops (43_measurement.md R160 to R173): what each of the four phases does with its answer, the phase each op runs
and from which states, and from these the transitions of the five ops. -/

namespace Sys2Proof.Machine

variable {s t : State} {i : Instr} {q : BusReq} {op b0 b1 hi lo : Byte} {k : ErrKind} {rest : List BusTurn}
  {fin : State → State}

/-! ### The phases, by their answer -/

theorem triggerPhase_ack (hbus : s.busIn = .ack b0 b1 :: rest) :
    triggerPhase op fin s = .next (fin { s.answered triggerReq (.ok []) rest with
      rawValid := false, measState := .triggered }) :=
  transact_ack hbus

theorem triggerPhase_nack (hbus : s.busIn = .nack k :: rest) :
    triggerPhase op fin s = .next (busFault op regCtrl k { s.answered triggerReq (.err k) rest with
      rawValid := false }) :=
  transact_nack hbus

theorem awaitPhase_signal (h : s.timerSignal = true) :
    awaitPhase fin s = .next (fin { s.takeElapsed with measState := .readMsb }) :=
  if_pos h

theorem awaitPhase_no_signal (h : s.timerSignal = false) : awaitPhase fin s = .next s :=
  awaitTimer_no_signal h

theorem msbPhase_ack (hbus : s.busIn = .ack b0 b1 :: rest) :
    msbPhase op fin s = .next (fin { s.answered (readReq regMsb 1) (.ok [b0]) rest with
      raw := some (b0 ++ 0x00#8), measState := .readLsb }) :=
  transact_ack hbus

theorem msbPhase_nack (hbus : s.busIn = .nack k :: rest) :
    msbPhase op fin s = .next (busFault op regMsb k (s.answered (readReq regMsb 1) (.err k) rest)) :=
  transact_nack hbus

theorem lsbPhase_ack (hraw : s.raw = some (hi ++ lo)) (hbus : s.busIn = .ack b0 b1 :: rest) :
    lsbPhase op fin s = .next (fin { s.answered (readReq regLsb 1) (.ok [b0]) rest with
      raw := some (hi ++ b0), rawValid := true, measState := .complete }) := by
  simp only [lsbPhase, hraw, transact_ack hbus, rawWithLsb_append]
  rfl

theorem lsbPhase_nack (hraw : s.raw.isSome = true) (hbus : s.busIn = .nack k :: rest) :
    lsbPhase op fin s = .next (busFault op regLsb k (s.answered (readReq regLsb 1) (.err k) rest)) := by
  obtain ⟨raw, hraw⟩ := Option.isSome_iff_exists.mp hraw
  simp only [lsbPhase, hraw, transact_nack hbus]

/-! ### The phase of each op, by `meas_state` -/

theorem mayTrigger_iff (m : MeasState) : m.mayTrigger = true ↔ m = .idle ∨ m = .complete := by
  cases m <;> simp [MeasState.mayTrigger]

theorem mayTrigger_eq_false {m : MeasState} (hi : m ≠ .idle) (hc : m ≠ .complete) : m.mayTrigger = false :=
  Bool.eq_false_iff.mpr fun h => ((mayTrigger_iff m).mp h).elim hi hc

theorem exec_trigger_ready (hm : s.measState.mayTrigger = true) :
    exec .trigger s = triggerPhase 0x08#8 State.done s :=
  if_pos hm

theorem exec_trigger_refused (hm : s.measState.mayTrigger = false) : exec .trigger s = .next (seqFault 0x08#8 s) :=
  if_neg (Bool.eq_false_iff.mp hm)

theorem exec_waitConv_start (hb : s.busy = false) (hm : s.measState = .triggered) :
    exec .waitConv s = .next { startPhase s with busy := true } := by
  simp only [exec, execWaitConv, if_neg (Bool.eq_false_iff.mp hb), if_pos hm]

theorem exec_waitConv_await (hb : s.busy = true) : exec .waitConv s = awaitPhase State.done s :=
  if_pos hb

theorem exec_waitConv_refused (hb : s.busy = false) (hm : s.measState ≠ .triggered) :
    exec .waitConv s = .next (seqFault 0x09#8 s) := by
  simp only [exec, execWaitConv, if_neg (Bool.eq_false_iff.mp hb), if_neg hm]

theorem exec_readMsb_ready (hm : s.measState = .readMsb) : exec .readMsb s = msbPhase 0x0A#8 State.done s :=
  if_pos hm

theorem exec_readMsb_refused (hm : s.measState ≠ .readMsb) : exec .readMsb s = .next (seqFault 0x0A#8 s) :=
  if_neg hm

theorem exec_readLsb_ready (hm : s.measState = .readLsb) : exec .readLsb s = lsbPhase 0x0B#8 State.done s :=
  if_pos hm

theorem exec_readLsb_refused (hm : s.measState ≠ .readLsb) : exec .readLsb s = .next (seqFault 0x0B#8 s) :=
  if_neg hm

theorem exec_measure_begin (hb : s.busy = false) (hm : s.measState.mayTrigger = true) :
    exec .measure s = triggerPhase 0x0C#8 State.beginMeasure s := by
  simp only [exec, execMeasure, if_neg (Bool.eq_false_iff.mp hb), if_pos hm]

theorem exec_measure_refused (hb : s.busy = false) (hm : s.measState.mayTrigger = false) :
    exec .measure s = .next (seqFault 0x0C#8 s) := by
  simp only [exec, execMeasure, if_neg (Bool.eq_false_iff.mp hb), if_neg (Bool.eq_false_iff.mp hm)]

theorem exec_measure_in_progress (hb : s.busy = true) : exec .measure s = measureOn s :=
  if_pos hb

theorem measureOn_triggered (hm : s.measState = .triggered) : measureOn s = .next (startPhase s) := by
  simp only [measureOn, hm]

theorem measureOn_converting (hm : s.measState = .converting) : measureOn s = awaitPhase id s := by
  simp only [measureOn, hm]

theorem measureOn_readMsb (hm : s.measState = .readMsb) : measureOn s = msbPhase 0x0C#8 id s := by
  simp only [measureOn, hm]

theorem measureOn_readLsb (hm : s.measState = .readLsb) : measureOn s = lsbPhase 0x0C#8 State.done s := by
  simp only [measureOn, hm]

/-! ### The four primitive ops (R161, R163, R165, R167) -/

/-- Settles O38: the trigger write by its answer, and the guard. -/
theorem triggerStartsTheConversion : Obligations.TriggerStartsTheConversion := by
  refine fun s => ⟨fun hm => ?_, fun hidle hcomplete => exec_trigger_refused (mayTrigger_eq_false hidle hcomplete)⟩
  rw [exec_trigger_ready ((mayTrigger_iff _).mpr hm)]
  exact ⟨fun _ _ _ => triggerPhase_ack, fun _ _ => triggerPhase_nack⟩

/-- Settles O39: the start of the wait, its end by the timer's signal, and the guard. -/
theorem waitConvWaitsForTheSignal : Obligations.WaitConvWaitsForTheSignal := by
  refine fun s => ⟨exec_waitConv_start, fun hb _ hsig => ?_, fun hb hsig => ?_, exec_waitConv_refused⟩
  · exact (exec_waitConv_await hb).trans (awaitPhase_signal hsig)
  · exact (exec_waitConv_await hb).trans (awaitPhase_no_signal hsig)

/-- Settles O40: the read of the high byte by its answer, and the guard. -/
theorem readMsbTakesTheHighByte : Obligations.ReadMsbTakesTheHighByte := by
  refine fun s => ⟨fun hm => ?_, exec_readMsb_refused⟩
  rw [exec_readMsb_ready hm]
  exact ⟨fun _ _ _ => msbPhase_ack, fun _ _ => msbPhase_nack⟩

/-- Settles O41: the read of the low byte by its answer, and the guard. -/
theorem readLsbCompletesTheRawValue : Obligations.ReadLsbCompletesTheRawValue := by
  refine fun s => ⟨fun hi lo hm hraw => ?_, exec_readLsb_refused⟩
  rw [exec_readLsb_ready hm]
  exact ⟨fun _ _ _ => lsbPhase_ack hraw, fun _ _ => lsbPhase_nack (by simp [hraw])⟩

/-! ### A failed transaction of the cycle (R162, R172, R258) -/

/-- A failed transaction of TRIGGER, READ_MSB, READ_LSB or MEASURE is the bus fault of its request's first byte, after which
`raw_valid` is kept by the reads only. -/
theorem exec_failed_transaction (hi : i ∈ [Instr.trigger, .readMsb, .readLsb, .measure]) (hq : busRequest i s = some q)
    (hbus : s.busIn = .nack k :: rest) :
    ∃ p, q.wdata.head? = some p ∧ exec i s = .next (busFault i.opcode p k { s.answered q (.err k) rest with
      rawValid := decide (q ≠ triggerReq) && s.rawValid }) := by
  simp only [List.mem_cons, List.not_mem_nil, or_false] at hi
  rcases hi with rfl | rfl | rfl | rfl
  · obtain ⟨hm, ⟨⟩⟩ := Option.ite_none_right_eq_some.mp hq
    exact ⟨_, rfl, (exec_trigger_ready hm).trans (triggerPhase_nack hbus)⟩
  · obtain ⟨hm, ⟨⟩⟩ := Option.ite_none_right_eq_some.mp hq
    exact ⟨_, rfl, (exec_readMsb_ready hm).trans (msbPhase_nack hbus)⟩
  · obtain ⟨⟨hm, hraw⟩, ⟨⟩⟩ := Option.ite_none_right_eq_some.mp hq
    exact ⟨_, rfl, (exec_readLsb_ready hm).trans (lsbPhase_nack hraw hbus)⟩
  · simp only [busRequest] at hq
    split at hq
    · rw [exec_measure_in_progress ‹_›]
      split at hq
      · cases hq
        exact ⟨_, rfl, (measureOn_readMsb ‹_›).trans (msbPhase_nack hbus)⟩
      · obtain ⟨⟨hm, hraw⟩, ⟨⟩⟩ := Option.ite_none_right_eq_some.mp hq
        exact ⟨_, rfl, (measureOn_readLsb hm).trans (lsbPhase_nack hraw hbus)⟩
    · obtain ⟨hm, ⟨⟩⟩ := Option.ite_none_right_eq_some.mp hq
      exact ⟨_, rfl, (exec_measure_begin (Bool.eq_false_iff.mpr ‹_›) hm).trans (triggerPhase_nack hbus)⟩

/-- MEASURE asks for the trigger write exactly in its first step (R172). -/
theorem busRequest_measure_trigger (hq : busRequest .measure s = some q) : decide (q ≠ triggerReq) = s.busy := by
  simp only [busRequest] at hq
  split at hq
  · rw [‹s.busy = true›]
    split at hq
    · cases hq; rfl
    · obtain ⟨-, ⟨⟩⟩ := Option.ite_none_right_eq_some.mp hq; rfl
  · obtain ⟨-, ⟨⟩⟩ := Option.ite_none_right_eq_some.mp hq
    exact (Bool.eq_false_iff.mpr ‹_›).symm

/-- The ops that ask for the trigger write do so only from a state that may begin a cycle (R161, R172). -/
theorem mayTrigger_of_busRequest (hi : i = .trigger ∨ i = .measure) (hq : busRequest i s = some triggerReq) :
    s.measState.mayTrigger = true := by
  rcases hi with rfl | rfl
  · exact (Option.ite_none_right_eq_some.mp hq).1
  · have hb : ¬s.busy = true := by rw [← busRequest_measure_trigger hq]; simp
    rw [busRequest, if_neg hb] at hq
    exact (Option.ite_none_right_eq_some.mp hq).1

/-- Settles O42: the phase of each state by its answer, a failed transaction, and the guard. -/
theorem measureMakesEachTransition : Obligations.MeasureMakesEachTransition := by
  intro s
  refine ⟨fun hb hm b0 b1 rest hbus => ?_, fun hb hm => ?_, fun hb hm hsig => ?_, fun hb hm hsig => ?_,
    fun hb hm b b1 rest hbus => ?_, fun hi lo hb hm hraw b b1 rest hbus => ?_, fun q k rest hq hbus => ?_,
    fun hb hidle hcomplete => ?_⟩
  · exact (exec_measure_begin hb ((mayTrigger_iff _).mpr hm)).trans (triggerPhase_ack hbus)
  · exact (exec_measure_in_progress hb).trans (measureOn_triggered hm)
  · rw [exec_measure_in_progress hb, measureOn_converting hm, awaitPhase_signal hsig]; rfl
  · rw [exec_measure_in_progress hb, measureOn_converting hm, awaitPhase_no_signal hsig]
  · rw [exec_measure_in_progress hb, measureOn_readMsb hm, msbPhase_ack hbus]; rfl
  · rw [exec_measure_in_progress hb, measureOn_readLsb hm, lsbPhase_ack hraw hbus]; rfl
  · obtain ⟨p, hp, he⟩ := exec_failed_transaction (i := .measure) (by simp) hq hbus
    rw [busRequest_measure_trigger hq] at he
    exact ⟨p, hp, he⟩
  · exact exec_measure_refused hb (mayTrigger_eq_false hidle hcomplete)

/-! ### After a failed trigger (R162, R290) -/

theorem raiseFault_mayTrigger (c : Cause) (info : FaultInfo) (hm : s.measState.mayTrigger = true) :
    (raiseFault c info s).measState.mayTrigger = true := by
  rcases raiseFault_cases c info s with ⟨-, he⟩ | he | ⟨-, -, he⟩ <;> rw [he]
  · exact hm
  · exact hm
  · rcases failCycle_cases c (s.saveFault c info) with he | he <;> rw [he]
    · exact hm
    · rfl

theorem raiseFault_rawValid_false (c : Cause) (info : FaultInfo) (hv : s.rawValid = false) :
    (raiseFault c info s).rawValid = false := by
  rcases raiseFault_cases c info s with ⟨-, he⟩ | he | ⟨-, -, he⟩ <;> rw [he]
  · exact hv
  · exact hv
  · rcases failCycle_cases c (s.saveFault c info) with he | he <;> rw [he]
    exact hv

/-- Between two cycles a read of the cycle is refused and touches no port (R254). -/
theorem exec_read_refused (hm : t.measState.mayTrigger = true) {j : Instr} (hj : j ∈ [Instr.readMsb, .readLsb]) :
    busRequest j t = none ∧
      ∃ u, exec j t = .next u ∧ u.cause = .seqError ∧ u.trace = t.trace ∧ u.raw = t.raw := by
  have hrefused (op : Byte) : ∃ u, Host.Outcome.next (seqFault op t) = (.next u : Result) ∧ u.cause = .seqError ∧
      u.trace = t.trace ∧ u.raw = t.raw := ⟨_, rfl, by rw [seqFault_eq]; exact ⟨rfl, rfl, rfl⟩⟩
  have hne {m : MeasState} (h : m.mayTrigger = false) : t.measState ≠ m := by
    rintro rfl
    exact Bool.false_ne_true (h.symm.trans hm)
  simp only [List.mem_cons, List.not_mem_nil, or_false] at hj
  rcases hj with rfl | rfl
  · rw [exec_readMsb_refused (hne rfl)]
    exact ⟨if_neg (hne rfl), hrefused _⟩
  · rw [exec_readLsb_refused (hne rfl)]
    exact ⟨if_neg fun h => hne rfl h.1, hrefused _⟩

/-- Settles O44: after the failed write the cycle stands where a cycle may begin, and there no read is let through. -/
theorem noReadsAfterAFailedTrigger : Obligations.NoReadsAfterAFailedTrigger := by
  intro i s t k rest hi hq hbus h
  obtain ⟨p, -, he⟩ := exec_failed_transaction (by rcases hi with rfl | rfl <;> simp) hq hbus
  cases he.symm.trans h
  have hm := raiseFault_mayTrigger (s := { s.answered triggerReq (.err k) rest with rawValid := false }) (busCause k)
    ⟨i.opcode, some sensorAddr, some p, some k, none⟩ (mayTrigger_of_busRequest hi hq)
  exact ⟨(mayTrigger_iff _).mp hm, raiseFault_rawValid_false _ _ rfl, fun j hj => exec_read_refused hm hj⟩

/-! ### A failed cycle under CONTINUE (R258, R259) -/

/-- The opcodes of TRIGGER, READ_MSB, READ_LSB and MEASURE. -/
def cycleOpcodes : List Byte := [0x08#8, 0x0A#8, 0x0B#8, 0x0C#8]

theorem failClass_cycle (hop : op ∈ cycleOpcodes) (k : ErrKind) : failClass op (busCause k) = .cycle := by
  revert op
  cases k <;> decide

/-- Below the bound a failed cycle is counted and resumes. -/
theorem failCycle_below (c : Cause) (h : s.consecFail.toNat + 1 < s.cfg.maxConsecFail.toNat) :
    s.failCycle c = { s.emit (.cycleError c) with
      consecFail := s.consecFail + 1#8
      measState := .idle
      rawValid := false
      upc := s.cfg.resumeUpc.setWidth 9 } := by
  have hinc : satInc s.consecFail = s.consecFail + 1#8 := if_neg (by bv_omega)
  have hbelow : ¬s.cfg.maxConsecFail ≤ s.consecFail + 1#8 := by bv_omega
  rw [State.failCycle, hinc, if_neg hbelow]

/-- Settles O20: the failed transaction (`exec_failed_transaction`) fails its cycle below the bound. -/
theorem continuePolicyFailsOnlyTheCycle : Obligations.ContinuePolicyFailsOnlyTheCycle := by
  intro i s q k rest hi hq hbus hpolicy hbound
  obtain ⟨p, hp, he⟩ := exec_failed_transaction hi hq hbus
  have hop : i.opcode ∈ cycleOpcodes := List.mem_map_of_mem (f := Instr.opcode) hi
  refine ⟨p, hp, ?_⟩
  rw [he, busFault, raiseFault_cycle_cont (failClass_cycle hop k) (by exact hpolicy), failCycle_below _ (by exact hbound)]
  simp [State.saveFault, State.answered, State.emit, State.log, sensorAddr]

/-! ### MEASURE and its primitive ops (R173) -/

/-- Both answer a next state, and the two are one up to what `State.upToOp` forgets. -/
def AgreeUpToOp (r r' : Result) : Prop :=
  ∃ t u, r = .next t ∧ r' = .next u ∧ t.upToOp = u.upToOp

section UpToOp

variable {s' : State} {op' : Byte} {fin' : State → State} (h : s.upToOp = s'.upToOp)
include h

theorem failCycle_upToOp (c : Cause) : (s.failCycle c).upToOp = (s'.failCycle c).upToOp := by
  have hcfg : s.cfg = s'.cfg := (congrArg State.cfg h :)
  have hcount : s.consecFail = s'.consecFail := (congrArg State.consecFail h :)
  unfold State.failCycle
  rw [hcfg, hcount]
  split
  · exact congrArg (fun v : State => { v.emit (.cycleError c) with
      consecFail := satInc s'.consecFail, runState := .halted }) h
  · exact congrArg (fun v : State => { v.emit (.cycleError c) with
      consecFail := satInc s'.consecFail, measState := .idle, rawValid := false }) h

/-- Two faults that differ in the opcode only, both of one class. -/
theorem raiseFault_upToOp {c : Cause} {info : FaultInfo} (hclass : failClass info.op c = failClass op' c) :
    (raiseFault c info s).upToOp = (raiseFault c { info with op := op' } s').upToOp := by
  have hpolicy : s.cfg.failPolicy = s'.cfg.failPolicy := congrArg (·.cfg.failPolicy) h
  have hsaved : (s.saveFault c info).upToOp = (s'.saveFault c { info with op := op' }).upToOp :=
    congrArg (fun v : State => { v with cause := c, faultInfo := some { info with op := 0x00#8 } }) h
  replace hclass : failClass info.op c = failClass { info with op := op' }.op c := hclass
  unfold raiseFault
  rw [hclass, hpolicy]
  split
  · exact h
  · exact failCycle_upToOp hsaved c
  all_goals exact congrArg (fun v : State => { v with runState := .halted }) hsaved

theorem busFault_upToOp (hop : op ∈ cycleOpcodes) (hop' : op' ∈ cycleOpcodes) (ptr : Byte) (k : ErrKind) :
    (busFault op ptr k s).upToOp = (busFault op' ptr k s').upToOp :=
  raiseFault_upToOp h ((failClass_cycle hop k).trans (failClass_cycle hop' k).symm)

/-- A transaction agrees with itself when what follows either answer does. -/
theorem transact_upToOp {onOk onOk' : Byte → Byte → State → State} {onErr onErr' : ErrKind → State → State}
    (req : BusReq) (hok : ∀ b0 b1 u u', u.upToOp = u'.upToOp → (onOk b0 b1 u).upToOp = (onOk' b0 b1 u').upToOp)
    (herr : ∀ k u u', u.upToOp = u'.upToOp → (onErr k u).upToOp = (onErr' k u').upToOp) :
    AgreeUpToOp (transact req s onOk onErr) (transact req s' onOk' onErr') := by
  have hbus : s'.busIn = s.busIn := (congrArg State.busIn h.symm :)
  cases hin : s.busIn with
  | nil => exact ⟨_, _, transact_silent hin, transact_silent (hbus.trans hin), congrArg (·.awaiting req []) h⟩
  | cons turn rest =>
    cases turn with
    | ack b0 b1 =>
      exact ⟨_, _, transact_ack hin, transact_ack (hbus.trans hin),
        hok b0 b1 _ _ (congrArg (·.answered req (okResp req b0 b1) rest) h)⟩
    | nack k =>
      exact ⟨_, _, transact_nack hin, transact_nack (hbus.trans hin),
        herr k _ _ (congrArg (·.answered req (.err k) rest) h)⟩
    | hold => exact ⟨_, _, transact_hold hin, transact_hold (hbus.trans hin), congrArg (·.awaiting req rest) h⟩

variable (hfin : ∀ u u', u.upToOp = u'.upToOp → (fin u).upToOp = (fin' u').upToOp)
include hfin

theorem awaitPhase_upToOp : AgreeUpToOp (awaitPhase fin s) (awaitPhase fin' s') := by
  have hsignal : s'.timerSignal = s.timerSignal := (congrArg State.timerSignal h.symm :)
  cases hsig : s.timerSignal with
  | true =>
    refine ⟨_, _, awaitPhase_signal hsig, awaitPhase_signal (hsignal.trans hsig), hfin _ _ ?_⟩
    exact congrArg (fun v : State => { v.takeElapsed with measState := .readMsb }) h
  | false => exact ⟨_, _, awaitPhase_no_signal hsig, awaitPhase_no_signal (hsignal.trans hsig), h⟩

variable (hop : op ∈ cycleOpcodes) (hop' : op' ∈ cycleOpcodes)
include hop hop'

theorem triggerPhase_upToOp : AgreeUpToOp (triggerPhase op fin s) (triggerPhase op' fin' s') := by
  refine transact_upToOp h _ (fun _ _ u u' hu => hfin _ _ ?_) (fun k u u' hu => busFault_upToOp ?_ hop hop' _ k)
  · exact congrArg (fun v : State => { v with rawValid := false, measState := .triggered }) hu
  · exact congrArg (fun v : State => { v with rawValid := false }) hu

theorem msbPhase_upToOp : AgreeUpToOp (msbPhase op fin s) (msbPhase op' fin' s') := by
  refine transact_upToOp h _ (fun b _ u u' hu => hfin _ _ ?_) (fun k u u' hu => busFault_upToOp hu hop hop' _ k)
  exact congrArg (fun v : State => { v with raw := some (rawFromMsb b), measState := .readLsb }) hu

theorem lsbPhase_upToOp : AgreeUpToOp (lsbPhase op fin s) (lsbPhase op' fin' s') := by
  have hraw : s.raw = s'.raw := (congrArg State.raw h :)
  unfold lsbPhase
  rw [hraw]
  split
  · exact ⟨_, _, rfl, rfl, raiseFault_upToOp h rfl⟩
  next raw _ =>
    refine transact_upToOp h _ (fun b _ u u' hu => hfin _ _ ?_) (fun k u u' hu => busFault_upToOp hu hop hop' _ k)
    exact congrArg (fun v : State => { v with
      raw := some (rawWithLsb raw b), rawValid := true, measState := .complete }) hu

end UpToOp

/-- Settles O43: in each state MEASURE and the primitive op run the same phase. -/
theorem measureDoesWhatThePrimitivesDo : Obligations.MeasureDoesWhatThePrimitivesDo := by
  intro s hs
  rcases hs with ⟨hb, hm⟩ | ⟨hb, hm⟩
  · have hprim : primitiveOf s.measState = .trigger := by
      rcases (mayTrigger_iff _).mp hm with h | h <;> rw [h] <;> rfl
    rw [exec_measure_begin hb hm, hprim, exec_trigger_ready (by exact hm)]
    exact triggerPhase_upToOp rfl (fun _ _ h => h) (by decide) (by decide)
  · rw [exec_measure_in_progress hb]
    have hstates : s.measState = .triggered ∨ s.measState = .converting ∨ s.measState = .readMsb ∨
        s.measState = .readLsb := by
      revert hm
      cases s.measState <;> simp [MeasState.mayTrigger]
    rcases hstates with hm | hm | hm | hm
    · rw [measureOn_triggered hm, show primitiveOf s.measState = .waitConv by rw [hm]; rfl,
        exec_waitConv_start (by simp [hm]) (by exact hm)]
      exact ⟨_, _, rfl, rfl, rfl⟩
    · rw [measureOn_converting hm, show primitiveOf s.measState = .waitConv by rw [hm]; rfl,
        exec_waitConv_await (by simp [hm])]
      exact awaitPhase_upToOp rfl (fun _ _ h => h)
    · rw [measureOn_readMsb hm, show primitiveOf s.measState = .readMsb by rw [hm]; rfl,
        exec_readMsb_ready (by exact hm)]
      exact msbPhase_upToOp rfl (fun _ _ h => h) (by decide) (by decide)
    · rw [measureOn_readLsb hm, show primitiveOf s.measState = .readLsb by rw [hm]; rfl,
        exec_readLsb_ready (by exact hm)]
      exact lsbPhase_upToOp rfl (fun _ _ h => h) (by decide) (by decide)

/-! ### Frames (R161 to R172) -/

/-- From `s` to `t` only elements that a phase at the bus may write have changed. -/
def BusPhaseFrame (s t : State) : Prop :=
  t = { s with
    raw := t.raw, rawValid := t.rawValid, measState := t.measState, upc := t.upc, busy := t.busy
    runState := t.runState, cause := t.cause, faultUpc := t.faultUpc, faultInfo := t.faultInfo
    consecFail := t.consecFail, trace := t.trace, busIn := t.busIn, busReq := t.busReq }

/-- From `s` to `t` only elements that MEASURE may write have changed: those of `BusPhaseFrame`, and the timer port. -/
def MeasureFrame (s t : State) : Prop :=
  t = { s with
    raw := t.raw, rawValid := t.rawValid, measState := t.measState, upc := t.upc, busy := t.busy
    runState := t.runState, cause := t.cause, faultUpc := t.faultUpc, faultInfo := t.faultInfo
    consecFail := t.consecFail, timerWait := t.timerWait, timerSignal := t.timerSignal
    trace := t.trace, busIn := t.busIn, busReq := t.busReq }

theorem BusPhaseFrame.measureFrame (h : BusPhaseFrame s t) : MeasureFrame s t := by
  rw [MeasureFrame, h]

theorem BusPhaseFrame.timer_eq (h : BusPhaseFrame s t) :
    t.timerWait = s.timerWait ∧ t.timerSignal = s.timerSignal :=
  ⟨by rw [h], by rw [h]⟩

theorem raiseFault_busPhaseFrame (c : Cause) (info : FaultInfo) (s : State) : BusPhaseFrame s (raiseFault c info s) := by
  obtain ⟨u, hu⟩ := raiseFault_frame c info s
  rw [BusPhaseFrame, hu]

theorem raiseFault_raw (c : Cause) (info : FaultInfo) (s : State) : (raiseFault c info s).raw = s.raw := by
  obtain ⟨u, hu⟩ := raiseFault_frame c info s
  rw [hu]

/-- A transaction keeps to the frame when what follows either answer does. -/
theorem transaction_busPhaseFrame {req : BusReq} {onOk : Byte → Byte → State → State} {onErr : ErrKind → State → State}
    (hok : ∀ b0 b1 u, BusPhaseFrame u (onOk b0 b1 u)) (herr : ∀ k u, BusPhaseFrame u (onErr k u))
    (hnext : (∃ b0 b1 u, Answered req s (.inl (b0, b1)) u ∧ t = onOk b0 b1 u) ∨
      (∃ k u, Answered req s (.inr k) u ∧ t = onErr k u) ∨ Awaiting req s t) : BusPhaseFrame s t := by
  have hanswered (resp rest u) (hu : BusPhaseFrame (s.answered req resp rest) u) : BusPhaseFrame s u := by
    rw [BusPhaseFrame, hu]; rfl
  rcases hnext with ⟨b0, b1, u, ⟨-⟩, rfl⟩ | ⟨k, u, ⟨-⟩, rfl⟩ | ⟨-⟩ | ⟨-⟩
  · exact hanswered _ _ _ (hok _ _ _)
  · exact hanswered _ _ _ (herr _ _)
  · rfl
  · rfl

section FramePhases

variable (hfin : ∀ u, BusPhaseFrame u (fin u))
include hfin

theorem triggerPhase_busPhaseFrame (h : triggerPhase op fin s = .next t) : BusPhaseFrame s t := by
  refine transaction_busPhaseFrame (fun _ _ u => ?_) (fun k u => ?_) (triggerPhase_next h)
  · rw [BusPhaseFrame, hfin]
  · rw [BusPhaseFrame, busFault, raiseFault_busPhaseFrame]

theorem msbPhase_busPhaseFrame (h : msbPhase op fin s = .next t) : BusPhaseFrame s t := by
  refine transaction_busPhaseFrame (fun b _ u => ?_) (fun k u => raiseFault_busPhaseFrame _ _ u) (msbPhase_next h)
  rw [BusPhaseFrame, hfin]

theorem lsbPhase_busPhaseFrame (h : lsbPhase op fin s = .next t) : BusPhaseFrame s t := by
  rcases lsbPhase_next h with ⟨-, rfl⟩ | ⟨raw, -, hnext⟩
  · exact raiseFault_busPhaseFrame _ _ s
  · refine transaction_busPhaseFrame (fun b _ u => ?_) (fun k u => raiseFault_busPhaseFrame _ _ u) hnext
    rw [BusPhaseFrame, hfin]

end FramePhases

theorem done_busPhaseFrame (s : State) : BusPhaseFrame s s.done := rfl

theorem execTrigger_frame (h : execTrigger s = .next t) : BusPhaseFrame s t := by
  rcases execTrigger_next h with ⟨-, hp⟩ | ⟨-, rfl⟩
  · exact triggerPhase_busPhaseFrame done_busPhaseFrame hp
  · exact raiseFault_busPhaseFrame _ _ s

theorem execReadMsb_frame (h : execReadMsb s = .next t) : BusPhaseFrame s t := by
  rcases execReadMsb_next h with ⟨-, hp⟩ | ⟨-, rfl⟩
  · exact msbPhase_busPhaseFrame done_busPhaseFrame hp
  · exact raiseFault_busPhaseFrame _ _ s

theorem execReadLsb_frame (h : execReadLsb s = .next t) : BusPhaseFrame s t := by
  rcases execReadLsb_next h with ⟨-, hp⟩ | ⟨-, rfl⟩
  · exact lsbPhase_busPhaseFrame done_busPhaseFrame hp
  · exact raiseFault_busPhaseFrame _ _ s

theorem execMeasure_frame (h : execMeasure s = .next t) : MeasureFrame s t := by
  have hid (u : State) : BusPhaseFrame u (id u) := rfl
  rcases execMeasure_next h with
    ⟨-, -, hp⟩ | ⟨-, -, rfl⟩ | ⟨-, ⟨-, rfl⟩ | ⟨-, hp⟩ | ⟨-, hp⟩ | ⟨-, hp⟩ | ⟨-, rfl⟩⟩
  · exact (triggerPhase_busPhaseFrame (fin := State.beginMeasure) (fun _ => rfl) hp).measureFrame
  · exact (raiseFault_busPhaseFrame _ _ s).measureFrame
  · rfl
  · rcases awaitPhase_next hp with ⟨-, rfl⟩ | ⟨-, rfl⟩ <;> rfl
  · exact (msbPhase_busPhaseFrame hid hp).measureFrame
  · exact (lsbPhase_busPhaseFrame done_busPhaseFrame hp).measureFrame
  · rfl

/-- TRIGGER keeps the raw value, though it clears `raw_valid` (R161). -/
theorem execTrigger_raw (h : execTrigger s = .next t) : t.raw = s.raw := by
  rcases execTrigger_next h with ⟨-, hp⟩ | ⟨-, rfl⟩
  · rcases triggerPhase_next hp with ⟨b0, b1, u, ⟨-⟩, rfl⟩ | ⟨k, u, ⟨-⟩, rfl⟩ | ⟨-⟩ | ⟨-⟩
    · rfl
    · exact raiseFault_raw _ _ _
    · rfl
    · rfl
  · exact raiseFault_raw _ _ s

theorem execWaitConv_frame (h : execWaitConv s = .next t) :
    t = { s with
      measState := t.measState, upc := t.upc, busy := t.busy
      runState := t.runState, cause := t.cause, faultUpc := t.faultUpc, faultInfo := t.faultInfo
      timerWait := t.timerWait, timerSignal := t.timerSignal, trace := t.trace } := by
  rcases execWaitConv_next h with ⟨-, hp⟩ | ⟨-, -, rfl⟩ | ⟨-, -, rfl⟩
  · rcases awaitPhase_next hp with ⟨-, rfl⟩ | ⟨-, rfl⟩ <;> rfl
  · rfl
  · rw [seqFault_eq]; rfl

/-- Settles O54, op by op. -/
theorem frameOfMeasurementOps : Obligations.FrameOfMeasurementOps := by
  refine fun s t => ⟨fun i hi h => ?_, fun i hi h => ?_, execTrigger_raw, execWaitConv_frame⟩
  all_goals simp only [List.mem_cons, List.not_mem_nil, or_false] at hi
  · rcases hi with rfl | rfl | rfl | rfl
    · exact (execTrigger_frame h).measureFrame
    · exact (execReadMsb_frame h).measureFrame
    · exact (execReadLsb_frame h).measureFrame
    · exact execMeasure_frame h
  · rcases hi with rfl | rfl | rfl
    · exact (execTrigger_frame h).timer_eq
    · exact (execReadMsb_frame h).timer_eq
    · exact (execReadLsb_frame h).timer_eq

end Sys2Proof.Machine
end

section
/-! The values of the compensation formula (44_compensation.md R190 to R193): the range of each value of the table of R190, and
that the 32-bit register of each line holds the exact integer of that line. -/

namespace Sys2Proof.Machine

/-! ### The ranges of R190 -/

theorem s16_range (u : Half) : -32768 ≤ s16 u ∧ s16 u ≤ 32767 :=
  ⟨BitVec.le_toInt u, Int.le_of_lt_add_one BitVec.toInt_lt⟩

/-- d1: the difference of two i16. -/
theorem difference_range (raw ac6 : Half) : -65535 ≤ s16 raw - s16 ac6 ∧ s16 raw - s16 ac6 ≤ 65535 := by
  have hraw := s16_range raw
  have hac6 := s16_range ac6
  omega

/-- p: by absolute values, at most `65535 * 32768`. -/
theorem product_range (raw ac6 ac5 : Half) :
    -2147450880 ≤ (s16 raw - s16 ac6) * s16 ac5 ∧ (s16 raw - s16 ac6) * s16 ac5 ≤ 2147450880 := by
  have hd1 : |s16 raw - s16 ac6| ≤ 65535 := abs_le.mpr (difference_range raw ac6)
  have hac5 : |s16 ac5| ≤ 32768 := abs_le.mpr ⟨(s16_range ac5).1, (s16_range ac5).2.trans (by decide)⟩
  refine abs_le.mp ?_
  calc |(s16 raw - s16 ac6) * s16 ac5| = |s16 raw - s16 ac6| * |s16 ac5| := abs_mul _ _
    _ ≤ 65535 * 32768 := mul_le_mul hd1 hac5 (abs_nonneg _) (by decide)

theorem x1_range (raw ac6 ac5 : Half) :
    -65535 ≤ asr ((s16 raw - s16 ac6) * s16 ac5) 15 ∧ asr ((s16 raw - s16 ac6) * s16 ac5) 15 ≤ 65535 := by
  have hp := product_range raw ac6 ac5
  simp only [asr]
  omega

/-- n: the shifted i16. -/
theorem dividend_range (mc : Half) : -67108864 ≤ shl (s16 mc) 11 ∧ shl (s16 mc) 11 ≤ 67106816 := by
  have hmc := s16_range mc
  simp only [shl]
  omega

theorem natAbs_tdiv (a b : Int) : (tdiv a b).natAbs = a.natAbs / b.natAbs :=
  (congrArg Int.natAbs (tdiv_eq a b)).trans (Int.natAbs_tdiv a b)

/-- A truncated quotient is no larger in absolute value than its dividend, whatever the divisor. -/
theorem tdiv_range {a m : Int} (h : -m ≤ a ∧ a ≤ m) (b : Int) : -m ≤ tdiv a b ∧ tdiv a b ≤ m := by
  have hle : (tdiv a b).natAbs ≤ a.natAbs := (natAbs_tdiv a b).trans_le (Nat.div_le_self _ _)
  omega

theorem x2_range (mc : Half) (d : Int) : -67108864 ≤ tdiv (shl (s16 mc) 11) d ∧ tdiv (shl (s16 mc) 11) d ≤ 67108864 :=
  tdiv_range ⟨(dividend_range mc).1, (dividend_range mc).2.trans (by decide)⟩ d

/-- q. -/
theorem shifted_range {b5 : Int} (h : -67174399 ≤ b5 ∧ b5 ≤ 67174399) :
    -4198400 ≤ asr (b5 + 8) 4 ∧ asr (b5 + 8) 4 ≤ 4198400 := by
  simp only [asr]
  omega

/-- t: the truncated tenth. -/
theorem tenth_range {q m : Int} (h : -(10 * m) ≤ q ∧ q ≤ 10 * m) : -m ≤ tdiv q 10 ∧ tdiv q 10 ≤ m := by
  have habs : (tdiv q 10).natAbs = q.natAbs / 10 := natAbs_tdiv q 10
  omega

/-- Settles O51, value by value of the table. -/
theorem formulaNeverOverflows : Obligations.FormulaNeverOverflows := by
  rintro raw cal _ _ x1 _ d rfl rfl hx1 rfl hd
  have hx1 : -65535 ≤ x1 ∧ x1 ≤ 65535 := hx1 ▸ x1_range raw cal.ac6 cal.ac5
  have hmd := s16_range cal.md
  refine ⟨difference_range raw cal.ac6, product_range raw cal.ac6 cal.ac5, hx1, dividend_range cal.mc, by omega, ?_⟩
  rintro - x2 b5 _ _ hx2 hb5 rfl rfl
  have hx2 : -67108864 ≤ x2 ∧ x2 ≤ 67108864 := hx2 ▸ x2_range cal.mc d
  have hb5 : -67174399 ≤ b5 ∧ b5 ≤ 67174399 := by omega
  have hq := shifted_range hb5
  exact ⟨hx2, hb5, hq, tenth_range hq⟩

/-! ### The registers hold the exact integers -/

theorem formulaX1_toInt (raw : Half) (cal : CalRec) :
    (formulaX1 raw cal).toInt = asr ((s16 raw - s16 cal.ac6) * s16 cal.ac5) 15 := by
  have hx1 := x1_range raw cal.ac6 cal.ac5
  exact i32_toInt (by omega) (by omega)

theorem formulaX2_toInt (x1 : BitVec 32) (cal : CalRec) :
    (formulaX2 x1 cal).toInt = tdiv (shl (s16 cal.mc) 11) (x1.toInt + s16 cal.md) := by
  have hx2 := x2_range cal.mc (formulaDivisor x1 cal)
  exact i32_toInt (by omega) (by omega)

/-- The sum is exact where an i32 can hold it. -/
theorem formulaB5_toInt {x1 x2 : BitVec 32} (h : -2147483648 ≤ x1.toInt + x2.toInt)
    (h' : x1.toInt + x2.toInt ≤ 2147483647) : (formulaB5 x1 x2).toInt = x1.toInt + x2.toInt :=
  i32_toInt h h'

/-- The temperature is exact for every i32 `b5`. -/
theorem formulaT_toInt (b5 : BitVec 32) : (formulaT b5).toInt = tdiv (asr (b5.toInt + 8) 4) 10 := by
  have hb5 : -2147483648 ≤ b5.toInt ∧ b5.toInt < 2147483648 := ⟨BitVec.le_toInt b5, BitVec.toInt_lt⟩
  have ht := tdiv_range (a := asr (b5.toInt + 8) 4) (m := 134217728) (by simp only [asr]; omega) 10
  exact i32_toInt (by omega) (by omega)

/-! ### So the registers are in range -/

theorem formulaX1_within (raw : Half) (cal : CalRec) :
    -65535 ≤ (formulaX1 raw cal).toInt ∧ (formulaX1 raw cal).toInt ≤ 65535 := by
  rw [formulaX1_toInt]
  exact x1_range raw cal.ac6 cal.ac5

theorem formulaX2_within (x1 : BitVec 32) (cal : CalRec) :
    -67108864 ≤ (formulaX2 x1 cal).toInt ∧ (formulaX2 x1 cal).toInt ≤ 67108864 := by
  rw [formulaX2_toInt]
  exact x2_range cal.mc _

theorem formulaB5_within {x1 x2 : BitVec 32} (hx1 : -65535 ≤ x1.toInt ∧ x1.toInt ≤ 65535)
    (hx2 : -67108864 ≤ x2.toInt ∧ x2.toInt ≤ 67108864) :
    -67174399 ≤ (formulaB5 x1 x2).toInt ∧ (formulaB5 x1 x2).toInt ≤ 67174399 := by
  rw [formulaB5_toInt (by omega) (by omega)]
  omega

theorem formulaT_within {b5 : BitVec 32} (hb5 : -67174399 ≤ b5.toInt ∧ b5.toInt ≤ 67174399) :
    -419840 ≤ (formulaT b5).toInt ∧ (formulaT b5).toInt ≤ 419840 := by
  rw [formulaT_toInt]
  exact tenth_range (shifted_range hb5)

end Sys2Proof.Machine
end

section
/-! The compensation ops (44_compensation.md R195 to R200): what each does from the values it finds, that COMPENSATE is its
sequence of ops, what they leave unchanged, and that every step keeps the registers of the formula in the ranges of R190. -/

namespace Sys2Proof.Machine

variable {s t : State} {i : Instr} {raw : Half} {cal : CalRec} {x1 x2 b5 v : BitVec 32}

/-! ### The values an op finds (R30, R33, R39) -/

theorem validRaw_eq_some (hvalid : s.rawValid = true) (hraw : s.raw = some raw) : s.validRaw = some raw := by
  rw [State.validRaw, if_pos hvalid, hraw]

theorem validRaw_eq_none (hvalid : s.rawValid = false) : s.validRaw = none :=
  if_neg (Bool.eq_false_iff.mp hvalid)

theorem validCal_eq_some (hvalid : s.calibValid = true) (hcal : s.calRec = some cal) : s.validCal = some cal := by
  rw [State.validCal, if_pos hvalid, hcal]

theorem validCal_eq_none (hvalid : s.calibValid = false) : s.validCal = none :=
  if_neg (Bool.eq_false_iff.mp hvalid)

/-! ### CMP_X1 (R195) -/

theorem exec_cmpX1_valid (hraw : s.validRaw = some raw) (hcal : s.validCal = some cal) :
    exec .cmpX1 s = .next { s with x1 := some (formulaX1 raw cal) }.done := by
  simp only [exec, execCmpX1, hraw, hcal]

theorem exec_cmpX1_refused (h : s.validRaw = none ∨ s.validCal = none) :
    exec .cmpX1 s = .next (seqFault 0x0D#8 s) := by
  simp only [exec, execCmpX1]
  split
  · simp_all
  · rfl

/-- Settles O45: CMP_X1 completes with both values, and is refused without one of them. -/
theorem cmpX1ComputesX1 : Obligations.CmpX1ComputesX1 :=
  fun _ => ⟨fun _ _ hrv hraw hcv hcal => exec_cmpX1_valid (validRaw_eq_some hrv hraw) (validCal_eq_some hcv hcal),
    fun h => exec_cmpX1_refused (h.imp validRaw_eq_none validCal_eq_none)⟩

/-! ### CMP_X2 (R196) -/

theorem exec_cmpX2_divides (hx1 : s.x1 = some x1) (hcal : s.validCal = some cal) (hd : formulaDivisor x1 cal ≠ 0) :
    exec .cmpX2 s = .next { s with x2 := some (formulaX2 x1 cal) }.done := by
  simp only [exec, execCmpX2, hx1, hcal, if_neg hd]

theorem exec_cmpX2_div0 (hx1 : s.x1 = some x1) (hcal : s.validCal = some cal) (hd : formulaDivisor x1 cal = 0) :
    exec .cmpX2 s = .next (divFault 0x0E#8 s) := by
  simp only [exec, execCmpX2, hx1, hcal, if_pos hd]

theorem exec_cmpX2_refused (h : s.x1 = none ∨ s.validCal = none) : exec .cmpX2 s = .next (seqFault 0x0E#8 s) := by
  simp only [exec, execCmpX2]
  split
  · simp_all
  · rfl

/-- Settles O46: CMP_X2 divides, meets divisor 0, or is refused. -/
theorem cmpX2ComputesX2 : Obligations.CmpX2ComputesX2 := by
  refine fun s => ⟨fun x1 cal hx1 hcv hcal => ?_, fun h => exec_cmpX2_refused (h.imp_right validCal_eq_none)⟩
  have hcal : s.validCal = some cal := validCal_eq_some hcv hcal
  exact ⟨exec_cmpX2_divides hx1 hcal, exec_cmpX2_div0 hx1 hcal⟩

/-! ### CMP_B5 (R197) -/

theorem exec_cmpB5_held (hx1 : s.x1 = some x1) (hx2 : s.x2 = some x2) :
    exec .cmpB5 s = .next { s with b5 := some (formulaB5 x1 x2) }.done := by
  simp only [exec, execCmpB5, hx1, hx2]

theorem exec_cmpB5_refused (h : s.x1 = none ∨ s.x2 = none) : exec .cmpB5 s = .next (seqFault 0x0F#8 s) := by
  simp only [exec, execCmpB5]
  split
  · simp_all
  · rfl

/-- Settles O47: the sum is `formulaB5`, exact by `formulaB5_toInt`. -/
theorem cmpB5AddsX1AndX2 : Obligations.CmpB5AddsX1AndX2 :=
  fun _ => ⟨fun x1 x2 hx1 hx2 => ⟨formulaB5 x1 x2, exec_cmpB5_held hx1 hx2, formulaB5_toInt⟩, exec_cmpB5_refused⟩

/-! ### CMP_T (R198) -/

theorem exec_cmpT_held (hb5 : s.b5 = some b5) :
    exec .cmpT s = .next { s with t := some (formulaT b5), consecFail := 0#8 }.done := by
  simp only [exec, execCmpT, hb5]

theorem exec_cmpT_refused (hb5 : s.b5 = none) : exec .cmpT s = .next (seqFault 0x10#8 s) := by
  simp only [exec, execCmpT, hb5]

/-- Settles O48. -/
theorem cmpTComputesTheTemperature : Obligations.CmpTComputesTheTemperature :=
  fun _ => ⟨fun _ => exec_cmpT_held, exec_cmpT_refused⟩

/-! ### COMPENSATE (R199) -/

theorem exec_compensate_ok (hraw : s.validRaw = some raw) (hcal : s.validCal = some cal)
    (hcomp : comp raw cal = .ok x1 x2 b5 v) : exec .compensate s = .next (s.compensated x1 x2 b5 v).done := by
  simp only [exec, execCompensate, hraw, hcal, hcomp]

theorem exec_compensate_div0 (hraw : s.validRaw = some raw) (hcal : s.validCal = some cal)
    (hcomp : comp raw cal = .div0 x1) : exec .compensate s = .next (divFault 0x11#8 s) := by
  simp only [exec, execCompensate, hraw, hcal, hcomp]

theorem exec_compensate_refused (h : s.validRaw = none ∨ s.validCal = none) :
    exec .compensate s = .next (seqFault 0x11#8 s) := by
  simp only [exec, execCompensate]
  split
  · simp_all
  · rfl

/-- The divisor of the formula, as the exact integer of its first line (R193). -/
theorem formulaDivisor_formulaX1 (raw : Half) (cal : CalRec) :
    formulaDivisor (formulaX1 raw cal) cal = asr ((s16 raw - s16 cal.ac6) * s16 cal.ac5) 15 + s16 cal.md := by
  rw [formulaDivisor, formulaX1_toInt]

/-- The third line is exact for the values of the first two. -/
theorem formulaB5_exact (raw : Half) (cal : CalRec) (x1 : BitVec 32) :
    (formulaB5 (formulaX1 raw cal) (formulaX2 x1 cal)).toInt =
      (formulaX1 raw cal).toInt + (formulaX2 x1 cal).toInt := by
  have hx1 := formulaX1_within raw cal
  have hx2 := formulaX2_within x1 cal
  exact formulaB5_toInt (by omega) (by omega)

/-- Settles O49: the four lines of `comp` are exact, and divisor 0 is that of the exact first line. -/
theorem compensateEvaluatesTheFormula : Obligations.CompensateEvaluatesTheFormula := by
  refine fun s => ⟨fun raw cal hrv hraw hcv hcal => ?_, fun h =>
    exec_compensate_refused (h.imp validRaw_eq_none validCal_eq_none)⟩
  have hraw : s.validRaw = some raw := validRaw_eq_some hrv hraw
  have hcal : s.validCal = some cal := validCal_eq_some hcv hcal
  rw [← formulaDivisor_formulaX1]
  refine ⟨fun hd => ⟨_, _, _, _, formulaX1_toInt raw cal, formulaX2_toInt _ cal, formulaB5_exact raw cal _,
    formulaT_toInt _, exec_compensate_ok hraw hcal (if_neg hd)⟩, fun hd => ?_⟩
  exact exec_compensate_div0 hraw hcal (if_pos hd)

/-! ### A division by 0 (R196, R252, R258) -/

/-- What FORMULA_DIV0 writes: the fault state, and what ends the cycle. -/
theorem divFault_frame (op : Byte) (s : State) :
    ∃ u : State, divFault op s = { s with
      upc := u.upc, busy := false, runState := u.runState
      cause := .formulaDiv0, faultUpc := u.faultUpc, faultInfo := u.faultInfo
      consecFail := u.consecFail, measState := u.measState, rawValid := u.rawValid, trace := u.trace } := by
  refine ⟨divFault op s, ?_⟩
  rcases raiseFault_cases .formulaDiv0 { op := op } s with ⟨habs, -⟩ | he | ⟨-, -, he⟩
  · simp at habs
  · rw [divFault, he]; rfl
  · rw [divFault, he]
    rcases failCycle_cases .formulaDiv0 (s.saveFault .formulaDiv0 { op := op }) with he | he <;> rw [he] <;> rfl

/-! ### COMPENSATE is its four ops (R200) -/

/-- The four ops write what COMPENSATE writes, one line of the formula each (R193). -/
theorem execSeq_formula (hraw : s.validRaw = some raw) (hcal : s.validCal = some cal)
    (hcomp : comp raw cal = .ok x1 x2 b5 v) :
    execSeq [.cmpX1, .cmpX2, .cmpB5, .cmpT] s = .next { s.compensated x1 x2 b5 v with
      busy := false, upc := s.upc + 1#9 + 1#9 + 1#9 + 1#9 } := by
  obtain ⟨hd, rfl, rfl, rfl, rfl⟩ := comp_ok hcomp
  rw [execSeq_cons (exec_cmpX1_valid hraw hcal), execSeq_cons (exec_cmpX2_divides rfl (by exact hcal) hd),
    execSeq_cons (exec_cmpB5_held rfl rfl), execSeq_cons (exec_cmpT_held rfl)]
  rfl

/-- On divisor 0 the sequence stops in its second op, with `x1` written. -/
theorem execSeq_formula_div0 (hraw : s.validRaw = some raw) (hcal : s.validCal = some cal)
    (hcomp : comp raw cal = .div0 x1) :
    execSeq [.cmpX1, .cmpX2] s = .next (divFault 0x0E#8 { s with x1 := some x1 }.done) := by
  obtain ⟨rfl, hd⟩ := comp_div0 hcomp
  rw [execSeq_cons (exec_cmpX1_valid hraw hcal), execSeq_cons (exec_cmpX2_div0 rfl (by exact hcal) hd)]
  rfl

/-- Settles O50: the fault of a divisor 0 writes no register of the formula (`divFault_frame`), in the sequence as in
COMPENSATE. -/
theorem compensateIsTheFourOps : Obligations.CompensateIsTheFourOps := by
  intro s raw cal hrv hraw hcv hcal
  have hraw : s.validRaw = some raw := validRaw_eq_some hrv hraw
  have hcal : s.validCal = some cal := validCal_eq_some hcv hcal
  refine ⟨fun x1 x2 b5 v hcomp => ?_, fun x1 hcomp => ?_⟩
  · exact ⟨_, execSeq_formula hraw hcal hcomp, exec_compensate_ok hraw hcal hcomp, rfl, rfl, rfl, rfl⟩
  · refine ⟨_, _, execSeq_formula_div0 hraw hcal hcomp, exec_compensate_div0 hraw hcal hcomp, ?_⟩
    obtain ⟨u, hu⟩ := divFault_frame 0x0E#8 { s with x1 := some x1 }.done
    obtain ⟨w, hw⟩ := divFault_frame 0x11#8 s
    rw [hu, hw]
    exact ⟨rfl, rfl, rfl, rfl, rfl, rfl⟩

/-! ### Frames (R195 to R199) -/

theorem execCmpX1_frame (h : execCmpX1 s = .next t) :
    t = { s with
      x1 := t.x1, upc := t.upc, busy := false, runState := t.runState
      cause := t.cause, faultUpc := t.faultUpc, faultInfo := t.faultInfo } := by
  rcases execCmpX1_next h with ⟨raw, cal, -, -, rfl⟩ | ⟨-, rfl⟩
  · rfl
  · rw [seqFault_eq]; rfl

theorem execCmpX2_frame (h : execCmpX2 s = .next t) :
    t = { s with
      x2 := t.x2, upc := t.upc, busy := false, runState := t.runState
      cause := t.cause, faultUpc := t.faultUpc, faultInfo := t.faultInfo
      consecFail := t.consecFail, measState := t.measState, rawValid := t.rawValid, trace := t.trace } := by
  rcases execCmpX2_next h with ⟨x1, cal, -, -, ⟨-, rfl⟩ | ⟨-, rfl⟩⟩ | ⟨-, rfl⟩
  · obtain ⟨u, hu⟩ := divFault_frame 0x0E#8 s
    rw [hu]
  · rfl
  · rw [seqFault_eq]; rfl

theorem execCmpB5_frame (h : execCmpB5 s = .next t) :
    t = { s with
      b5 := t.b5, upc := t.upc, busy := false, runState := t.runState
      cause := t.cause, faultUpc := t.faultUpc, faultInfo := t.faultInfo } := by
  rcases execCmpB5_next h with ⟨x1, x2, -, -, rfl⟩ | ⟨-, rfl⟩
  · rfl
  · rw [seqFault_eq]; rfl

theorem execCmpT_frame (h : execCmpT s = .next t) :
    t = { s with
      t := t.t, consecFail := t.consecFail, upc := t.upc, busy := false, runState := t.runState
      cause := t.cause, faultUpc := t.faultUpc, faultInfo := t.faultInfo } := by
  rcases execCmpT_next h with ⟨b5, -, rfl⟩ | ⟨-, rfl⟩
  · rfl
  · rw [seqFault_eq]; rfl

theorem execCompensate_frame (h : execCompensate s = .next t) :
    t = { s with
      x1 := t.x1, x2 := t.x2, b5 := t.b5, t := t.t, upc := t.upc, busy := false, runState := t.runState
      cause := t.cause, faultUpc := t.faultUpc, faultInfo := t.faultInfo
      consecFail := t.consecFail, measState := t.measState, rawValid := t.rawValid, trace := t.trace } := by
  rcases execCompensate_next h with ⟨raw, cal, -, -, ⟨x1, x2, b5, v, -, rfl⟩ | ⟨x1, -, rfl⟩⟩ | ⟨-, rfl⟩
  · rfl
  · obtain ⟨u, hu⟩ := divFault_frame 0x11#8 s
    rw [hu]
  · rw [seqFault_eq]; rfl

/-- Settles O55, op by op. -/
theorem frameOfCompensationOps : Obligations.FrameOfCompensationOps :=
  fun _ _ => ⟨execCmpX1_frame, execCmpX2_frame, execCmpB5_frame, execCmpT_frame, execCompensate_frame⟩

/-! ### The registers of the formula in their ranges (R190, R202) -/

/-- The registers of the formula (R34). -/
def State.formulaRegs (s : State) : Option (BitVec 32) × Option (BitVec 32) × Option (BitVec 32) × Option (BitVec 32) :=
  (s.x1, s.x2, s.b5, s.t)

/-- A state that is a frame of `s` with the four registers of `s` keeps their ranges. -/
theorem State.FormulaInRange.of_frame {u : State} (hs : s.FormulaInRange) (h : t = u)
    (hregs : u.formulaRegs = s.formulaRegs) : t.FormulaInRange := by
  subst h
  obtain ⟨hx1, hx2, hb5, ht⟩ : t.x1 = s.x1 ∧ t.x2 = s.x2 ∧ t.b5 = s.b5 ∧ t.t = s.t := by
    simpa [State.formulaRegs] using hregs
  exact ⟨hx1 ▸ hs.x1_range, hx2 ▸ hs.x2_range, hb5 ▸ hs.b5_range, ht ▸ hs.t_range⟩

theorem regWithin_some {lo hi : Int} (h : lo ≤ v.toInt ∧ v.toInt ≤ hi) : regWithin lo hi (some v) := by
  rintro _ ⟨⟩
  exact h

theorem State.FormulaInRange.raiseFault (hs : s.FormulaInRange) (c : Cause) (info : FaultInfo) :
    (raiseFault c info s).FormulaInRange := by
  obtain ⟨u, hu⟩ := raiseFault_frame c info s
  exact hs.of_frame hu rfl

theorem State.FormulaInRange.execCmpX1 (hs : s.FormulaInRange) (h : execCmpX1 s = .next t) : t.FormulaInRange := by
  rcases execCmpX1_next h with ⟨raw, cal, -, -, rfl⟩ | ⟨-, rfl⟩
  · exact ⟨regWithin_some (formulaX1_within raw cal), hs.x2_range, hs.b5_range, hs.t_range⟩
  · exact hs.raiseFault _ _

theorem State.FormulaInRange.execCmpX2 (hs : s.FormulaInRange) (h : execCmpX2 s = .next t) : t.FormulaInRange := by
  rcases execCmpX2_next h with ⟨x1, cal, -, -, ⟨-, rfl⟩ | ⟨-, rfl⟩⟩ | ⟨-, rfl⟩
  · exact hs.raiseFault _ _
  · exact ⟨hs.x1_range, regWithin_some (formulaX2_within x1 cal), hs.b5_range, hs.t_range⟩
  · exact hs.raiseFault _ _

theorem State.FormulaInRange.execCmpB5 (hs : s.FormulaInRange) (h : execCmpB5 s = .next t) : t.FormulaInRange := by
  rcases execCmpB5_next h with ⟨x1, x2, hx1, hx2, rfl⟩ | ⟨-, rfl⟩
  · have hb5 := formulaB5_within (hs.x1_range x1 hx1) (hs.x2_range x2 hx2)
    exact ⟨hs.x1_range, hs.x2_range, regWithin_some hb5, hs.t_range⟩
  · exact hs.raiseFault _ _

theorem State.FormulaInRange.execCmpT (hs : s.FormulaInRange) (h : execCmpT s = .next t) : t.FormulaInRange := by
  rcases execCmpT_next h with ⟨b5, hb5, rfl⟩ | ⟨-, rfl⟩
  · exact ⟨hs.x1_range, hs.x2_range, hs.b5_range, regWithin_some (formulaT_within (hs.b5_range b5 hb5))⟩
  · exact hs.raiseFault _ _

/-- COMPENSATE's four values are in range whatever the registers held before. -/
theorem State.FormulaInRange.execCompensate (hs : s.FormulaInRange) (h : execCompensate s = .next t) :
    t.FormulaInRange := by
  rcases execCompensate_next h with ⟨raw, cal, -, -, ⟨x1, x2, b5, v, hcomp, rfl⟩ | ⟨x1, -, rfl⟩⟩ | ⟨-, rfl⟩
  · obtain ⟨-, rfl, rfl, rfl, rfl⟩ := comp_ok hcomp
    have hx1 := formulaX1_within raw cal
    have hx2 := formulaX2_within (formulaX1 raw cal) cal
    have hb5 := formulaB5_within hx1 hx2
    exact ⟨regWithin_some hx1, regWithin_some hx2, regWithin_some hb5, regWithin_some (formulaT_within hb5)⟩
  · exact hs.raiseFault _ _
  · exact hs.raiseFault _ _

/-- The compensation ops write the registers in range; the frame of every other op leaves them. -/
theorem State.FormulaInRange.exec (hs : s.FormulaInRange) (h : exec i s = .next t) : t.FormulaInRange := by
  cases i with
  | report tag => exact hs.of_frame (execReport_frame h) rfl
  | probe a => exact hs.of_frame (execProbe_frame h) rfl
  | scan => exact hs.of_frame (execScan_frame h) rfl
  | readId => exact hs.of_frame (execReadId_frame h) rfl
  | readReg16 p slot => exact hs.of_frame (execReadReg16_frame h) rfl
  | commitCalib => exact hs.of_frame (execCommitCalib_frame h) rfl
  | readCalib => exact hs.of_frame (execReadCalib_frame h) rfl
  | trigger => exact hs.of_frame (execTrigger_frame h) rfl
  | waitConv => exact hs.of_frame (execWaitConv_frame h) rfl
  | readMsb => exact hs.of_frame (execReadMsb_frame h) rfl
  | readLsb => exact hs.of_frame (execReadLsb_frame h) rfl
  | measure => exact hs.of_frame (execMeasure_frame h) rfl
  | cmpX1 => exact hs.execCmpX1 h
  | cmpX2 => exact hs.execCmpX2 h
  | cmpB5 => exact hs.execCmpB5 h
  | cmpT => exact hs.execCmpT h
  | compensate => exact hs.execCompensate h
  | jmp _ | halt => cases h; exact hs.of_frame rfl rfl

/-- A reset empties the registers (R40). -/
theorem hostReset_formulaInRange (h : hostReset s = .next t) : t.FormulaInRange := by
  unfold hostReset at h
  split at h <;> cases h
  exact ⟨regWithin_none _ _, regWithin_none _ _, regWithin_none _ _, regWithin_none _ _⟩

theorem State.FormulaInRange.atBoundary (hs : s.FormulaInRange) : (atBoundary s).FormulaInRange :=
  hs.of_frame (atBoundary_eq s) rfl

/-- Settles O58, by the cases of a step: a host reset, a halted block, an illegal fetch, and an op. -/
theorem stepKeepsTheFormulaRanges : Obligations.StepKeepsTheFormulaRanges := by
  intro s t hs h
  have hb : (atBoundary s).FormulaInRange := hs.atBoundary
  rcases step_cases s with
    ⟨-, he⟩ | ⟨-, -, he⟩ | ⟨-, -, -, he⟩ | ⟨-, -, -, ⟨info, -, he⟩ | ⟨i, -, he⟩⟩ <;> rw [he] at h
  · cases h
  · exact hostReset_formulaInRange h
  · cases h; exact hb
  · cases h; exact hb.raiseFault _ _
  · exact hb.exec h

end Sys2Proof.Machine
end

section
/-! The sequencer (45_sequencer.md R220, R223, R233 to R235): the step of a running block by what it fetches, and what REPORT,
JMP and HALT do. -/

namespace Sys2Proof.Machine

variable {s : State} {w : Word} {i : Instr} {info : FaultInfo}

/-! ### Fetch and step (R220, R223, R255) -/

theorem fetch_of_decode (hw : s.cfg.rom[s.upc.toNat]? = some w) (hd : decode w = .ok i) : fetch s = .ok i := by
  simp only [fetch, hw, hd]

theorem fetch_outside_rom (h : s.cfg.rom.length ≤ s.upc.toNat) : fetch s = .error { op := 0x00#8 } := by
  simp only [fetch, List.getElem?_eq_none h]

theorem fetch_of_illegal_word {e : DecodeError} (hw : s.cfg.rom[s.upc.toNat]? = some w) (hd : decode w = .error e) :
    fetch s = .error { op := w.extractLsb' 0 8, word := some w } := by
  simp only [fetch, hw, hd]
  rfl

@[simp] theorem atBoundary_upc (s : State) : (atBoundary s).upc = s.upc := by
  rw [atBoundary_eq]

/-- Settles O9: the step of a fetched op, and the boundary's timer signal by the coming tick. -/
theorem stepRunsTheDecodedOp : Obligations.StepRunsTheDecodedOp := by
  intro s w i hwf hticks hrun hw hd
  have hr : resetDue s = false := beq_eq_false_iff_ne.mpr hticks
  refine ⟨step_of_fetched hwf hr hrun (fetch_of_decode hw hd), ?_⟩
  rw [atBoundary_eq, atBoundary_timerSignal]

theorem step_of_fetch_error (hc : configAccepted s.cfg = true) (hr : resetDue s = false) (hrun : s.runState = .running)
    (hf : fetch s = .error info) : step s = .next { atBoundary s with
      cause := .illegalOp, faultUpc := s.upc, faultInfo := some info, busy := false, runState := .halted } := by
  have hstep : step s = .next (raiseFault .illegalOp info (atBoundary s)) := by
    simp [step, hc, hr, hrun, fetchAndExec, hf]
  rw [hstep, illegalOp_eq, ← atBoundary_upc s]
  rfl

/-- Settles O10: either way the fetch is an error, and the fault is FATAL (`step_of_fetch_error`). -/
theorem illegalFetchHalts : Obligations.IllegalFetchHalts := by
  intro s hwf hticks hrun
  have hr : resetDue s = false := beq_eq_false_iff_ne.mpr hticks
  exact ⟨fun hout => step_of_fetch_error hwf hr hrun (fetch_outside_rom hout),
    fun w e hw hd => step_of_fetch_error hwf hr hrun (fetch_of_illegal_word hw hd)⟩

/-! ### REPORT, JMP, HALT (R233, R234, R235) -/

theorem exec_report_refused {tag : ReportTag} (h : s.recordFor tag = none) :
    exec (.report tag) s = .next (seqFault 0x01#8 s) := by
  simp only [exec, execReport, reportHeld, h]

/-- The record a tag of the calibration names, where the record is there (R233). -/
theorem recordFor_calib {cal : CalRec} (hcal : s.validCal = some cal) :
    ∀ p ∈ [(ReportTag.ac5, Record.ac5 cal.ac5), (.ac6, .ac6 cal.ac6), (.mc, .mc cal.mc), (.md, .md cal.md)],
      s.recordFor p.1 = some p.2 := by
  simp [State.recordFor, hcal]

theorem recordFor_calib_none (hcal : s.validCal = none) :
    ∀ tag ∈ [ReportTag.ac5, .ac6, .mc, .md], s.recordFor tag = none := by
  simp [State.recordFor, hcal]

/-- Settles O23: REPORT by the record its tag names, and without one the failed precondition. -/
theorem reportEmitsTheHeldValue : Obligations.ReportEmitsTheHeldValue := by
  refine fun s => ⟨rfl, fun cal hvalid hcal p hp => ?_, fun v ht => ?_, fun hvalid tag htag => ?_, fun ht => ?_⟩
  · exact exec_report_held (recordFor_calib (validCal_eq_some hvalid hcal) p hp)
  · exact exec_report_held (congrArg (Option.map Record.temp) ht)
  · exact exec_report_refused (recordFor_calib_none (validCal_eq_none hvalid) tag htag)
  · exact exec_report_refused (congrArg (Option.map Record.temp) ht)

/-- Settles O24: zero-extending the target keeps its number. -/
theorem jmpSetsUpc : Obligations.JmpSetsUpc := by
  intro n s
  rw [BitVec.ofNat_toNat]
  rfl

/-- Settles O25: HALT is these two writes. -/
theorem haltStopsTheBlock : Obligations.HaltStopsTheBlock := fun _ => rfl

end Sys2Proof.Machine
end

section
/-! The reference micro-program (45_sequencer.md R236, R237; 60_exceptions.md R254, R255). `State.Inv` and the configuration are
kept by every step of any ROM; what is left of `State.ReferenceRun` is `State.OnReferencePath`, and each position of the program
hands the next one what its op asks for. -/

namespace Sys2Proof.Machine

variable {s t : State} {i : Instr} {n : Upc}

/-! ### The program (R236) -/

/-- The reference ROM, op by op as R236 prints it. -/
def referenceProgram : List Instr :=
  [.report .scanStart, .scan, .readId, .readCalib, .measure, .compensate, .report .temp, .jmp 4#8]

theorem assemble_referenceProgram : assemble referenceProgram = referenceRom := by decide

theorem fetch_of_assembled {p : List Instr} (hrom : s.cfg.rom = assemble p) (hi : p[s.upc.toNat]? = some i) :
    fetch s = .ok i :=
  fetch_of_decode (by rw [hrom, assemble, List.getElem?_map, hi]; rfl) (decodeOfEncodeIsTheOp i)

/-- The positions of the program, one by one. -/
theorem upc_of_le_seven {u : Upc} (h : u ≤ 7#9) :
    u = 0#9 ∨ u = 1#9 ∨ u = 2#9 ∨ u = 3#9 ∨ u = 4#9 ∨ u = 5#9 ∨ u = 6#9 ∨ u = 7#9 := by
  bv_omega

theorem exists_referenceOp {u : Upc} (h : u ≤ 7#9) : ∃ i, referenceProgram[u.toNat]? = some i :=
  ⟨_, List.getElem?_eq_getElem (show u.toNat < 8 by bv_omega)⟩

/-! ### The points of the program (R237) -/

/-- What `State.ReferenceRun` says beside the consistency of the state and the configuration. -/
structure State.OnReferencePath (s : State) : Prop where
  in_rom : s.upc ≤ 7#9
  clean : s.cause ≠ .seqError ∧ s.cause ≠ .illegalOp
  point : s.runState = .running → ReferencePoint s

theorem State.ReferenceRun.onPath (hs : s.ReferenceRun) : s.OnReferencePath := ⟨hs.in_rom, hs.clean, hs.point⟩

/-- Before the loop. -/
theorem State.OnReferencePath.of_startup (hu : s.upc ≤ 3#9) (hclean : s.cause ≠ .seqError ∧ s.cause ≠ .illegalOp)
    (hvalid : s.calibValid = false) (hm : s.measState = .idle) : s.OnReferencePath where
  in_rom := BitVec.le_trans hu (by decide)
  clean := hclean
  point _ :=
    { startup_no_record := fun _ => ⟨hvalid, hm⟩
      loop_has_record := fun h => by bv_omega
      at_measure := fun h => by bv_omega
      measured := fun h => by bv_omega
      at_report := fun h => by bv_omega }

/-- At MEASURE, the head of the loop. -/
theorem State.OnReferencePath.of_loop_head (hu : s.upc = 4#9) (hclean : s.cause ≠ .seqError ∧ s.cause ≠ .illegalOp)
    (hvalid : s.calibValid = true) (hm : s.busy = false → s.measState.mayTrigger = true) : s.OnReferencePath where
  in_rom := by bv_omega
  clean := hclean
  point _ :=
    { startup_no_record := fun h => by bv_omega
      loop_has_record := fun _ => hvalid
      at_measure := fun _ => hm
      measured := fun h => by bv_omega
      at_report := fun h => by bv_omega }

/-- Behind MEASURE. -/
theorem State.OnReferencePath.of_measured (hu : s.upc = n) (hn : 5#9 ≤ n ∧ n ≤ 7#9)
    (hclean : s.cause ≠ .seqError ∧ s.cause ≠ .illegalOp) (hvalid : s.calibValid = true) (hraw : s.rawValid = true)
    (ht : n = 6#9 → s.t.isSome = true) : s.OnReferencePath where
  in_rom := hu ▸ hn.2
  clean := hclean
  point _ :=
    { startup_no_record := fun h => by bv_omega
      loop_has_record := fun _ => hvalid
      at_measure := fun h => by bv_omega
      measured := fun _ => hraw
      at_report := fun h => ht (hu.symm.trans h) }

/-- The path does not depend on the bus port, the timer's signal and the ticks. -/
theorem State.OnReferencePath.ports (hs : s.OnReferencePath) (req : Option BusReq) (bus : List BusTurn) (signal : Bool)
    (ticks : List EnvTick) :
    { s with busReq := req, busIn := bus, timerSignal := signal, ticks := ticks }.OnReferencePath where
  in_rom := hs.in_rom
  clean := hs.clean
  point hrun :=
    have hp : ReferencePoint s := hs.point hrun
    ⟨hp.startup_no_record, hp.loop_has_record, hp.at_measure, hp.measured, hp.at_report⟩

/-- A step that waits stays where it is. -/
theorem State.OnReferencePath.awaiting {req : BusReq} (hs : s.OnReferencePath) (hw : Awaiting req s t) :
    t.OnReferencePath := by
  cases hw <;> exact hs.ports _ _ _ _

theorem State.OnReferencePath.atBoundary (hs : s.OnReferencePath) : (atBoundary s).OnReferencePath := by
  rw [atBoundary_eq]
  exact hs.ports _ _ _ _

/-! ### Faults other than SEQ_ERROR and ILLEGAL_OP -/

/-- A block that such a fault has halted is at no point of the program. -/
theorem onReferencePath_of_halted {c : Cause} (hu : s.upc ≤ 7#9) (hc : c ≠ .seqError ∧ c ≠ .illegalOp)
    (info : FaultInfo) : { s.saveFault c info with runState := .halted }.OnReferencePath :=
  ⟨hu, hc, nofun⟩

/-- In the loop a fault halts the block or goes back to the head of the loop, RESUME_UPC, in IDLE (R258, R259). -/
theorem raiseFault_onReferencePath {c : Cause} {info : FaultInfo} (hu : s.upc ≤ 7#9) (hresume : s.cfg.resumeUpc = 4#8)
    (hvalid : s.calibValid = true) (hc : c ≠ .seqError ∧ c ≠ .illegalOp) (hclass : failClass info.op c ≠ .absorbed) :
    (raiseFault c info s).OnReferencePath := by
  rcases raiseFault_cases c info s with ⟨habs, -⟩ | he | ⟨-, -, he⟩
  · exact absurd habs hclass
  · rw [he]
    exact onReferencePath_of_halted hu hc info
  · rw [he]
    rcases failCycle_cases c (s.saveFault c info) with he | he <;> rw [he]
    · exact ⟨hu, hc, nofun⟩
    · exact .of_loop_head (congrArg (BitVec.setWidth 9) hresume) hc hvalid fun _ => rfl

theorem busFault_onReferencePath {op ptr : Byte} {k : ErrKind} (hu : s.upc ≤ 7#9) (hresume : s.cfg.resumeUpc = 4#8)
    (hvalid : s.calibValid = true) (hop : op ∈ busFaultOpcodes) :
    (busFault op ptr k s).OnReferencePath :=
  raiseFault_onReferencePath hu hresume hvalid ⟨busCause_ne_seqError k, busCause_ne_illegalOp k⟩
    (failClass_busCause hop k)

/-- Before the loop a failed transaction halts the block (R256 STARTUP). -/
theorem busFault_startup_onReferencePath {op ptr : Byte} {k : ErrKind} (hu : s.upc ≤ 7#9)
    (hop : op ∈ [0x04#8, 0x05#8, 0x07#8]) : (busFault op ptr k s).OnReferencePath := by
  rw [busFault_startup hop]
  exact onReferencePath_of_halted hu ⟨busCause_ne_seqError k, busCause_ne_illegalOp k⟩ _

/-! ### Each position hands on what the next one asks for -/

/-- The block runs the reference ROM and stands at `n`. -/
structure State.ReferenceAt (s : State) (n : Upc) : Prop where
  run : s.ReferenceRun
  running : s.runState = .running
  at_upc : s.upc = n

theorem State.ReferenceAt.readyFor (hs : s.ReferenceAt n) (hi : referenceProgram[n.toNat]? = some i) : s.ReadyFor i where
  consistent := hs.run.consistent
  running := hs.running
  fetched := fetch_of_assembled (hs.run.rom_is.trans assemble_referenceProgram.symm) (by rw [hs.at_upc]; exact hi)

theorem State.ReferenceAt.point (hs : s.ReferenceAt n) : ReferencePoint s := hs.run.point hs.running

theorem State.ReferenceAt.next_upc (hs : s.ReferenceAt n) : s.upc + 1#9 = n + 1#9 := by rw [hs.at_upc]

theorem State.ReferenceAt.startup (hs : s.ReferenceAt n) (hn : n ≤ 3#9) : s.calibValid = false ∧ s.measState = .idle :=
  hs.point.startup_no_record (hs.at_upc ▸ hn)

theorem State.ReferenceAt.calibValid (hs : s.ReferenceAt n) (hn : 4#9 ≤ n) : s.calibValid = true :=
  hs.point.loop_has_record (hs.at_upc ▸ hn)

theorem State.ReferenceAt.rawValid (hs : s.ReferenceAt n) (hn : 5#9 ≤ n) : s.rawValid = true :=
  hs.point.measured (hs.at_upc ▸ hn)

theorem State.ReferenceAt.validRaw (hs : s.ReferenceAt n) (hn : 5#9 ≤ n) : ∃ raw, s.validRaw = some raw := by
  obtain ⟨-, hraw⟩ := hs.run.consistent.raw_valid_complete (hs.rawValid hn)
  obtain ⟨raw, hraw⟩ := Option.isSome_iff_exists.mp hraw
  exact ⟨raw, validRaw_eq_some (hs.rawValid hn) hraw⟩

theorem State.ReferenceAt.validCal (hs : s.ReferenceAt n) (hn : 4#9 ≤ n) : ∃ cal, s.validCal = some cal := by
  obtain ⟨cal, hcal⟩ := Option.isSome_iff_exists.mp (hs.run.consistent.calib_valid_iff.mp (hs.calibValid hn))
  exact ⟨cal, validCal_eq_some (hs.calibValid hn) hcal⟩

/-- A step before the loop that neither writes a record, nor touches the cycle, nor faults. -/
theorem State.ReferenceAt.startup_step (hs : s.ReferenceAt n) (hn : n ≤ 3#9) (hu : t.upc ≤ 3#9)
    (hcause : t.cause = s.cause) (hvalid : t.calibValid = s.calibValid) (hm : t.measState = s.measState) :
    t.OnReferencePath := by
  obtain ⟨hvalid', hm'⟩ := hs.startup hn
  exact .of_startup hu (hcause ▸ hs.run.clean) (hvalid.trans hvalid') (hm.trans hm')

/-- Position 0: REPORT SCAN_START has no precondition (R233). -/
theorem State.ReferenceAt.execReport_scanStart (hs : s.ReferenceAt 0#9) (h : execReport .scanStart s = .next t) :
    t.OnReferencePath := by
  cases h
  exact hs.startup_step (by decide) (by simp [hs.at_upc]) rfl rfl rfl

/-- SCAN's step keeps `upc`, or ends the op (R124). -/
theorem scanned_upc (s : State) (a : BitVec 8) (ack : Bool) :
    (s.scanned a ack).upc = if a = scanLast then s.upc + 1#9 else s.upc := by
  by_cases ha : a = scanLast
  · rw [ha, scanned_last, done_upc, probed_eq, if_pos rfl]
  · rw [scanned_of_ne_last ha, probed_eq, if_neg ha]

theorem State.ReferenceAt.scanned (hs : s.ReferenceAt 1#9) (req : BusReq) (resp : BusResp) (rest : List BusTurn)
    (a : BitVec 8) (ack : Bool) : ((s.answered req resp rest).scanned a ack).OnReferencePath := by
  refine hs.startup_step (by decide) ?_ ?_ ?_ ?_
  · rw [scanned_upc, answered_upc, hs.at_upc]
    split <;> decide
  all_goals rw [scanned_frame]; rfl

/-- Position 1: SCAN absorbs every failure (R256). -/
theorem State.ReferenceAt.execScan (hs : s.ReferenceAt 1#9) (h : execScan s = .next t) : t.OnReferencePath := by
  rcases execScan_next h with ⟨b0, b1, u, ⟨-⟩, rfl⟩ | ⟨k, u, ⟨-⟩, rfl⟩ | hw
  · exact hs.scanned _ _ _ _ _
  · exact hs.scanned _ _ _ _ _
  · exact hs.run.onPath.awaiting hw

/-- Position 2: READ_ID goes on, or halts by a failed read (R141). -/
theorem State.ReferenceAt.execReadId (hs : s.ReferenceAt 2#9) (h : execReadId s = .next t) : t.OnReferencePath := by
  have hnext : s.upc + 1#9 ≤ 3#9 := by rw [hs.at_upc]; decide
  rcases execReadId_next h with ⟨b, b1, u, ⟨-⟩, rfl⟩ | ⟨k, u, ⟨-⟩, rfl⟩ | hw
  · rw [identified_eq]
    exact hs.startup_step (by decide) hnext rfl rfl rfl
  · cases hmode : s.cfg.idReadFailMode with
    | fatal =>
      rw [idReadFailed_fatal (by exact hmode)]
      exact busFault_startup_onReferencePath hs.run.in_rom (by decide)
    | reportUndetected =>
      rw [idReadFailed_reported (by exact hmode)]
      exact hs.startup_step (by decide) hnext rfl rfl rfl
  · exact hs.run.onPath.awaiting hw

theorem CalStage.exists_toRec {stage : CalStage} (h : ∀ slot, (stage.get slot).isSome = true) :
    ∃ cal, stage.toRec = some cal := by
  obtain ⟨ac5, hac5⟩ := Option.isSome_iff_exists.mp (h .ac5)
  obtain ⟨ac6, hac6⟩ := Option.isSome_iff_exists.mp (h .ac6)
  obtain ⟨mc, hmc⟩ := Option.isSome_iff_exists.mp (h .mc)
  obtain ⟨md, hmd⟩ := Option.isSome_iff_exists.mp (h .md)
  simp only [CalStage.get] at hac5 hac6 hmc hmd
  exact ⟨⟨ac5, ac6, mc, md⟩, by simp only [CalStage.toRec, hac5, hac6, hmc, hmd]⟩

theorem stagedBelow_of_no_slot {i : BitVec 3} (h : slotOfIdx i = none) : stagedBelow i = 0b1111#4 := by
  revert i
  decide

/-- When READ_CALIB comes to commit, its four slots hold their values (R148). -/
theorem State.ReadyFor.calib_complete (hs : s.ReadyFor .readCalib) (hguard : s.busy = true ∨ s.calibValid = false)
    (hslot : slotOfIdx s.calibStep = none) : ∃ cal, s.calStage.toRec = some cal := by
  obtain ⟨-, hwritten⟩ := hs.calib_staged hguard
  rw [stagedBelow_of_no_slot hslot, State.calibWritten] at hwritten
  have hfull : s.stageWritten = 0b1111#4 := by
    split at hwritten
    · exact hwritten
    · exact absurd hwritten (by decide)
  refine CalStage.exists_toRec fun slot => hs.consistent.staged_has_value slot ?_
  rw [hfull]
  cases slot <;> decide

/-- Position 3: READ_CALIB finds no record, and its four slots full when it commits (R148). -/
theorem State.ReferenceAt.execReadCalib (hs : s.ReferenceAt 3#9) (h : execReadCalib s = .next t) :
    t.OnReferencePath := by
  obtain ⟨hnone, hidle⟩ := hs.startup (by decide)
  rcases execReadCalib_next h with
    ⟨-, hvalid, -⟩ | ⟨hguard, ⟨slot, -, ⟨b0, b1, u, ⟨-⟩, rfl⟩ | ⟨k, u, ⟨-⟩, rfl⟩ | hw⟩ |
      ⟨hslot, ⟨cal, -, rfl⟩ | ⟨hrec, -⟩⟩⟩
  · exact absurd (hnone.symm.trans hvalid) (by simp)
  · rw [State.calibRead, enterCalib_eq]
    exact hs.startup_step (by decide) (BitVec.le_of_eq hs.at_upc) rfl rfl rfl
  · refine busFault_startup_onReferencePath ?_ (by decide)
    rw [enterCalib_upc]
    exact hs.run.in_rom
  · exact hs.run.onPath.awaiting hw
  · exact .of_loop_head hs.next_upc (by exact hs.run.clean) rfl fun _ => congrArg MeasState.mayTrigger hidle
  · obtain ⟨cal, hcal⟩ := (hs.readyFor rfl).calib_complete hguard hslot
    cases hrec.symm.trans hcal

/-- MEASURE goes on (R172): it stays at the head of the loop, in progress. -/
theorem State.ReferenceAt.measure_step (hs : s.ReferenceAt 4#9) (hu : t.upc = s.upc) (hcause : t.cause = s.cause)
    (hvalid : t.calibValid = s.calibValid) (hb : t.busy = true) : t.OnReferencePath :=
  .of_loop_head (hu.trans hs.at_upc) (hcause ▸ hs.run.clean) (hvalid.trans (hs.calibValid (by decide))) (by simp [hb])

/-- A failed transaction of MEASURE (R258). -/
theorem State.ReferenceAt.measure_fault {ptr : Byte} {k : ErrKind} (hs : s.ReferenceAt 4#9) (hu : t.upc = s.upc)
    (hcfg : t.cfg = s.cfg) (hvalid : t.calibValid = s.calibValid) : (busFault 0x0C#8 ptr k t).OnReferencePath :=
  busFault_onReferencePath (hu ▸ hs.run.in_rom) (hcfg ▸ hs.run.resume_is) (hvalid.trans (hs.calibValid (by decide)))
    (by decide)

/-- Position 4: MEASURE begins where a cycle may begin, and reads the low byte with the high byte there (R172). -/
theorem State.ReferenceAt.execMeasure (hs : s.ReferenceAt 4#9) (h : execMeasure s = .next t) : t.OnReferencePath := by
  rcases execMeasure_next h with
    ⟨-, -, hp⟩ | ⟨hb, hm, -⟩ | ⟨hb, ⟨-, rfl⟩ | ⟨-, hp⟩ | ⟨-, hp⟩ | ⟨hm, hp⟩ | ⟨-, rfl⟩⟩
  · rcases triggerPhase_next hp with ⟨b0, b1, u, ⟨-⟩, rfl⟩ | ⟨k, u, ⟨-⟩, rfl⟩ | hw
    · exact hs.measure_step rfl rfl rfl rfl
    · exact hs.measure_fault rfl rfl rfl
    · exact hs.run.onPath.awaiting hw
  · exact absurd (hm.symm.trans (hs.point.at_measure hs.at_upc hb)) (by simp)
  · exact hs.measure_step rfl rfl rfl hb
  · rcases awaitPhase_next hp with ⟨-, rfl⟩ | ⟨-, rfl⟩
    · exact hs.measure_step rfl rfl rfl hb
    · exact hs.run.onPath
  · rcases msbPhase_next hp with ⟨b, b1, u, ⟨-⟩, rfl⟩ | ⟨k, u, ⟨-⟩, rfl⟩ | hw
    · exact hs.measure_step rfl rfl rfl hb
    · exact hs.measure_fault rfl rfl rfl
    · exact hs.run.onPath.awaiting hw
  · rcases lsbPhase_next hp with ⟨hnone, -⟩ | ⟨raw, -, ⟨b, b1, u, ⟨-⟩, rfl⟩ | ⟨k, u, ⟨-⟩, rfl⟩ | hw⟩
    · have hraw := hs.run.consistent.lsb_has_raw hm
      simp [hnone] at hraw
    · exact .of_measured hs.next_upc (by decide) hs.run.clean (hs.calibValid (by decide)) rfl (absurd · (by decide))
    · exact hs.measure_fault rfl rfl rfl
    · exact hs.run.onPath.awaiting hw
  · exact hs.run.onPath

/-- Position 5: COMPENSATE finds the raw value and the record; a divisor of 0 is FORMULA_DIV0 (R199, R252). -/
theorem State.ReferenceAt.execCompensate (hs : s.ReferenceAt 5#9) (h : execCompensate s = .next t) :
    t.OnReferencePath := by
  have hvalid : s.calibValid = true := hs.calibValid (by decide)
  obtain ⟨raw, hraw⟩ := hs.validRaw (by decide)
  obtain ⟨cal, hcal⟩ := hs.validCal (by decide)
  rcases execCompensate_next h with ⟨raw, cal, -, -, ⟨x1, x2, b5, v, -, rfl⟩ | ⟨x1, -, rfl⟩⟩ | ⟨hnone, -⟩
  · exact .of_measured hs.next_upc (by decide) hs.run.clean hvalid (hs.rawValid (by decide)) fun _ => rfl
  · exact raiseFault_onReferencePath hs.run.in_rom hs.run.resume_is hvalid (by decide) (by simp)
  · simp [hraw, hcal] at hnone

/-- Position 6: REPORT TEMP finds the temperature (R233). -/
theorem State.ReferenceAt.execReport_temp (hs : s.ReferenceAt 6#9) (h : execReport .temp s = .next t) :
    t.OnReferencePath := by
  obtain ⟨v, hv⟩ := Option.isSome_iff_exists.mp (hs.point.at_report hs.at_upc)
  rcases execReport_next h with ⟨r, -, rfl⟩ | ⟨hnone, -⟩
  · exact .of_measured hs.next_upc (by decide) hs.run.clean (hs.calibValid (by decide)) (hs.rawValid (by decide))
      (absurd · (by decide))
  · simp [State.recordFor, hv] at hnone

/-- Position 7: JMP goes back to the head of the loop with the cycle in COMPLETE (R234). -/
theorem State.ReferenceAt.execJmp (hs : s.ReferenceAt 7#9) (h : execJmp 4#8 s = .next t) : t.OnReferencePath := by
  obtain ⟨hcomplete, -⟩ := hs.run.consistent.raw_valid_complete (hs.rawValid (by decide))
  cases h
  exact .of_loop_head rfl hs.run.clean (hs.calibValid (by decide)) fun _ => congrArg MeasState.mayTrigger hcomplete

/-! ### Every step -/

theorem State.ReferenceRun.exec (hs : s.ReferenceRun) (hrun : s.runState = .running)
    (hi : referenceProgram[s.upc.toNat]? = some i) (h : exec i s = .next t) : t.OnReferencePath := by
  rcases upc_of_le_seven hs.in_rom with hu | hu | hu | hu | hu | hu | hu | hu <;> rw [hu] at hi <;> cases hi
  · exact State.ReferenceAt.execReport_scanStart ⟨hs, hrun, hu⟩ h
  · exact State.ReferenceAt.execScan ⟨hs, hrun, hu⟩ h
  · exact State.ReferenceAt.execReadId ⟨hs, hrun, hu⟩ h
  · exact State.ReferenceAt.execReadCalib ⟨hs, hrun, hu⟩ h
  · exact State.ReferenceAt.execMeasure ⟨hs, hrun, hu⟩ h
  · exact State.ReferenceAt.execCompensate ⟨hs, hrun, hu⟩ h
  · exact State.ReferenceAt.execReport_temp ⟨hs, hrun, hu⟩ h
  · exact State.ReferenceAt.execJmp ⟨hs, hrun, hu⟩ h

theorem hostReset_onReferencePath (h : hostReset s = .next t) : t.OnReferencePath := by
  unfold hostReset at h
  split at h <;> cases h
  have hu : State.reset.upc ≤ 3#9 := by decide
  have hclean : State.reset.cause ≠ .seqError ∧ State.reset.cause ≠ .illegalOp := by decide
  exact .of_startup hu hclean rfl rfl

theorem State.ReferenceRun.atBoundary (hs : s.ReferenceRun) : (atBoundary s).ReferenceRun :=
  have hpath := hs.onPath.atBoundary
  ⟨hs.consistent.atBoundary, by rw [atBoundary_cfg, hs.rom_is], by rw [atBoundary_cfg, hs.resume_is], hpath.in_rom,
    hpath.clean, hpath.point⟩

theorem State.ReferenceRun.step_onReferencePath (hs : s.ReferenceRun) (h : step s = .next t) : t.OnReferencePath := by
  obtain ⟨j, hj⟩ := exists_referenceOp hs.in_rom
  have hfetch : fetch s = .ok j := fetch_of_assembled (hs.rom_is.trans assemble_referenceProgram.symm) hj
  rcases step_cases s with
    ⟨-, he⟩ | ⟨-, -, he⟩ | ⟨-, -, -, he⟩ | ⟨-, -, hrun, ⟨info, hf, -⟩ | ⟨i, hf, he⟩⟩
  · cases he.symm.trans h
  · exact hostReset_onReferencePath (he.symm.trans h)
  · cases he.symm.trans h
    exact hs.onPath.atBoundary
  · cases hf.symm.trans hfetch
  · cases hf.symm.trans hfetch
    exact hs.atBoundary.exec (by rw [atBoundary_eq]; exact hrun) (by rw [atBoundary_upc]; exact hj) (he.symm.trans h)

/-- Settles O60: the state stays consistent (O57), the configuration is not written (O4), and the block stays on the path of
the program. -/
theorem referenceRomMeetsEveryPrecondition : Obligations.ReferenceRomMeetsEveryPrecondition := by
  intro s t hs h
  have hcfg : t.cfg = s.cfg := configurationNeverWritten s t h
  obtain ⟨hu, hclean, hpoint⟩ := hs.step_onReferencePath h
  exact ⟨stepKeepsTheStateConsistent s t hs.consistent h, by rw [hcfg, hs.rom_is], by rw [hcfg, hs.resume_is], hu, hclean,
    hpoint⟩

end Sys2Proof.Machine
end

section
/-! The exceptions (60_exceptions.md R251, R254, R256 to R258, R267): the fault procedure by class and policy, and how a step of
an op may end: without a fault, with one other than SEQ_ERROR after its precondition held, or with SEQ_ERROR. -/

namespace Sys2Proof.Machine

variable {s t u : State} {i : Instr} {c : Cause} {info : FaultInfo}

/-! ### The fault procedure (R256, R258) -/

theorem satInc_toNat (n : BitVec 8) : (satInc n).toNat = min (n.toNat + 1) 255 := by
  unfold satInc
  split <;> bv_omega

theorem satInc_eq_ofNat (n : BitVec 8) : satInc n = BitVec.ofNat 8 (min (n.toNat + 1) 255) := by
  rw [← satInc_toNat, BitVec.ofNat_toNat, BitVec.setWidth_eq]

theorem failCycle_at_bound (h : s.cfg.maxConsecFail.toNat ≤ min (s.consecFail.toNat + 1) 255) :
    s.failCycle c = { s.emit (.cycleError c) with consecFail := satInc s.consecFail, runState := .halted } :=
  if_pos (by rwa [BitVec.le_def, satInc_toNat])

theorem failCycle_below_bound (h : min (s.consecFail.toNat + 1) 255 < s.cfg.maxConsecFail.toNat) :
    s.failCycle c = { s.emit (.cycleError c) with
      consecFail := satInc s.consecFail
      measState := .idle
      rawValid := false
      upc := s.cfg.resumeUpc.setWidth 9 } :=
  if_neg (by rwa [BitVec.le_def, satInc_toNat, Nat.not_le])

/-- Settles O17: the faults that halt by `raiseFault_halts`, a failed cycle by where its count stands against the bound. -/
theorem faultProcedureByClass : Obligations.FaultProcedureByClass := by
  refine fun c info s => ⟨fun h => ?_, fun hclass hpolicy hbound => ?_, fun hclass hpolicy hbound => ?_⟩
  · rcases h with hclass | hclass | ⟨hclass, hpolicy⟩
    · exact raiseFault_halts (by simp [hclass]) (.inl (by simp [hclass]))
    · exact raiseFault_halts (by simp [hclass]) (.inl (by simp [hclass]))
    · exact raiseFault_halts (by simp [hclass]) (.inr hpolicy)
  · rw [raiseFault_cycle_cont hclass hpolicy, failCycle_at_bound (by exact hbound), ← satInc_eq_ofNat]
    rfl
  · rw [raiseFault_cycle_cont hclass hpolicy, failCycle_below_bound (by exact hbound), ← satInc_eq_ofNat]
    rfl

/-- Settles O18: the bus errors kind by kind, those of the measurement ops by `failClass_cycle`. -/
theorem causesAndClasses : Obligations.CausesAndClasses := by
  refine ⟨⟨rfl, rfl, rfl⟩, fun k p slot => ?_, fun k i hi => ?_, fun k a => ?_, fun op => ⟨rfl, rfl, rfl⟩⟩
  · cases k <;> exact ⟨rfl, rfl, rfl⟩
  · exact failClass_cycle (List.mem_map_of_mem (f := Instr.opcode) hi) k
  · cases k <;> exact ⟨rfl, rfl⟩

/-- Under HALT a fault that is not absorbed halts, and none appends to the trace (R258, R267). -/
theorem raiseFault_under_halt (hpolicy : s.cfg.failPolicy = .halt) (c : Cause) (info : FaultInfo) :
    raiseFault c info s = s ∨
    (raiseFault c info s).runState = .halted ∧ (raiseFault c info s).trace = s.trace := by
  rcases raiseFault_cases c info s with ⟨-, he⟩ | he | ⟨-, hcont, -⟩
  · exact .inl he
  · rw [he]
    exact .inr ⟨rfl, rfl⟩
  · cases hpolicy.symm.trans hcont

theorem raiseFault_cause (c : Cause) (info : FaultInfo) (s : State) :
    (raiseFault c info s).cause = s.cause ∨ (raiseFault c info s).cause = c := by
  rcases raiseFault_cases c info s with ⟨-, he⟩ | he | ⟨-, -, he⟩ <;> rw [he]
  · exact .inl rfl
  · exact .inr rfl
  · rcases failCycle_cases c (s.saveFault c info) with he | he <;> rw [he] <;> exact .inr rfl

/-! ### What takes no fault -/

/-- From `s` to `t` no fault is taken: the saved registers and the configuration stay, and no CYCLE_ERROR is emitted. -/
structure FaultFree (s t : State) : Prop where
  cause_eq : t.cause = s.cause
  info_eq : t.faultInfo = s.faultInfo
  cfg_eq : t.cfg = s.cfg
  events : ∃ es, t.trace = s.trace ++ es ∧ ∀ c, .report (.cycleError c) ∉ es

theorem faultFree_of_eq (hcause : t.cause = s.cause) (hinfo : t.faultInfo = s.faultInfo) (hcfg : t.cfg = s.cfg)
    (htrace : t.trace = s.trace) : FaultFree s t :=
  ⟨hcause, hinfo, hcfg, [], by simp [htrace], by simp⟩

theorem FaultFree.refl (s : State) : FaultFree s s := faultFree_of_eq rfl rfl rfl rfl

theorem FaultFree.after (htu : FaultFree t u) (hst : FaultFree s t) : FaultFree s u := by
  obtain ⟨es, htrace, hes⟩ := hst.events
  obtain ⟨es', htrace', hes'⟩ := htu.events
  refine ⟨htu.cause_eq.trans hst.cause_eq, htu.info_eq.trans hst.info_eq, htu.cfg_eq.trans hst.cfg_eq, es ++ es',
    by simp [htrace', htrace], fun c hmem => ?_⟩
  exact (List.mem_append.mp hmem).elim (hes c) (hes' c)

/-- What is written beside the saved registers, the configuration and the trace is free. -/
theorem FaultFree.congr (hst : FaultFree s t) (hcause : u.cause = t.cause) (hinfo : u.faultInfo = t.faultInfo)
    (hcfg : u.cfg = t.cfg) (htrace : u.trace = t.trace) : FaultFree s u :=
  (faultFree_of_eq hcause hinfo hcfg htrace).after hst

theorem done_faultFree (s : State) : FaultFree s s.done := faultFree_of_eq rfl rfl rfl rfl

theorem FaultFree.done (h : FaultFree s t) : FaultFree s t.done := (done_faultFree t).after h

theorem beginMeasure_faultFree (s : State) : FaultFree s s.beginMeasure := faultFree_of_eq rfl rfl rfl rfl

theorem emit_faultFree (s : State) {r : Record} (hr : ∀ c, r ≠ .cycleError c) : FaultFree s (s.emit r) :=
  ⟨rfl, rfl, rfl, [.report r], rfl, fun c hmem => hr c (Event.report.inj (List.mem_singleton.mp hmem)).symm⟩

theorem Answered.faultFree {req : BusReq} {a : (Byte × Byte) ⊕ ErrKind} (h : Answered req s a u) : FaultFree s u := by
  cases h <;> exact ⟨rfl, rfl, rfl, _, rfl, by simp⟩

theorem Awaiting.faultFree {req : BusReq} (h : Awaiting req s t) : FaultFree s t := by
  cases h <;> exact faultFree_of_eq rfl rfl rfl rfl

theorem probed_faultFree (s : State) (a : BusAddr) (ack : Bool) : FaultFree s (s.probed a ack) := by
  rw [probed_eq]
  refine ⟨rfl, rfl, rfl, _, probed_trace s a ack, ?_⟩
  cases ack <;> simp

theorem scanned_faultFree (s : State) (a : BitVec 8) (ack : Bool) : FaultFree s (s.scanned a ack) := by
  by_cases ha : a = scanLast
  · rw [ha, scanned_last]
    exact (probed_faultFree s 127#7 ack).congr rfl rfl rfl rfl
  · rw [scanned_of_ne_last ha]
    exact (probed_faultFree s (a.setWidth 7) ack).congr rfl rfl rfl rfl

theorem identified_faultFree (s : State) (b : Byte) : FaultFree s (s.identified b) := by
  rw [identified_eq]
  refine ⟨rfl, rfl, rfl, _, identified_trace s b, ?_⟩
  split <;> simp

theorem enterCalib_faultFree (s : State) : FaultFree s s.enterCalib := by
  rw [enterCalib_eq]
  exact faultFree_of_eq rfl rfl rfl rfl

theorem calibRead_faultFree (s : State) (slot : Slot) (j : BitVec 3) (b0 b1 : Byte) :
    FaultFree s (s.calibRead slot j b0 b1) :=
  (enterCalib_faultFree s).congr rfl rfl rfl rfl

theorem startPhase_faultFree (s : State) : FaultFree s (startPhase s) :=
  ⟨rfl, rfl, rfl, [.timerStart], rfl, by simp⟩

/-- The record REPORT emits is never CYCLE_ERROR (R233). -/
theorem recordFor_ne_cycleError {tag : ReportTag} {r : Record} (h : s.recordFor tag = some r) (c : Cause) :
    r ≠ .cycleError c := by
  rintro rfl
  cases tag <;> simp [State.recordFor] at h

/-! ### How a step of an op ends -/

/-- From `s` to `t` there is at most one fault, the last thing taken, and it is no SEQ_ERROR. -/
inductive Proceeds (s : State) : State → Prop
  | faultFree {t : State} (h : FaultFree s t) : Proceeds s t
  | fault {u : State} {c : Cause} (h : FaultFree s u) (hc : c ≠ .seqError) (info : FaultInfo) :
      Proceeds s (raiseFault c info u)

theorem Proceeds.after (h : Proceeds u t) (hsu : FaultFree s u) : Proceeds s t := by
  cases h with
  | faultFree h => exact .faultFree (h.after hsu)
  | fault h hc info => exact .fault (h.after hsu) hc info

theorem busFault_proceeds (op ptr : Byte) (k : ErrKind) (s : State) : Proceeds s (busFault op ptr k s) :=
  .fault (.refl s) (busCause_ne_seqError k) _

theorem divFault_proceeds (op : Byte) (s : State) : Proceeds s (divFault op s) :=
  .fault (.refl s) (by simp) _

/-- A failed identity read is a bus fault, or clears `id_match` and ends the op (R141, R143). -/
theorem idReadFailed_proceeds (s : State) (k : ErrKind) : Proceeds s (s.idReadFailed k) := by
  cases hmode : s.cfg.idReadFailMode with
  | fatal => rw [idReadFailed_fatal hmode]; exact busFault_proceeds _ _ k s
  | reportUndetected =>
    rw [idReadFailed_reported hmode]
    exact .faultFree ⟨rfl, rfl, rfl, _, rfl, by simp⟩

theorem transaction_proceeds {req : BusReq} {onOk : Byte → Byte → State → State} {onErr : ErrKind → State → State}
    (hnext : (∃ b0 b1 u, Answered req s (.inl (b0, b1)) u ∧ t = onOk b0 b1 u) ∨
      (∃ k u, Answered req s (.inr k) u ∧ t = onErr k u) ∨ Awaiting req s t)
    (hok : ∀ b0 b1 u, FaultFree u (onOk b0 b1 u)) (herr : ∀ k u, Proceeds u (onErr k u)) : Proceeds s t := by
  rcases hnext with ⟨b0, b1, u, ha, rfl⟩ | ⟨k, u, ha, rfl⟩ | hw
  · exact .faultFree ((hok b0 b1 u).after ha.faultFree)
  · exact (herr k u).after ha.faultFree
  · exact .faultFree hw.faultFree

/-- The op's precondition held and the step went on, or the step is a SEQ_ERROR; where the state is consistent and the op is
the one at `upc`, its precondition was then false (R254). -/
inductive Guarded (i : Instr) (s t : State) : Prop
  | passed (hpre : precondition i s = true) (h : Proceeds s t)
  | refused (hpre : s.Inv → fetch s = .ok i → precondition i s = false) (h : t = seqFault i.opcode s)

/-! ### The values behind the valid bits (R30, R33, R39) -/

theorem rawValid_of_validRaw {raw : Half} (h : s.validRaw = some raw) : s.rawValid = true :=
  (Option.ite_none_right_eq_some.mp h).1

theorem calibValid_of_validCal {cal : CalRec} (h : s.validCal = some cal) : s.calibValid = true :=
  (Option.ite_none_right_eq_some.mp h).1

theorem State.Inv.rawValid_eq_false (hinv : s.Inv) (h : s.validRaw = none) : s.rawValid = false := by
  refine Bool.eq_false_iff.mpr fun hvalid => ?_
  obtain ⟨raw, hraw⟩ := Option.isSome_iff_exists.mp (hinv.raw_valid_complete hvalid).2
  cases h.symm.trans (validRaw_eq_some hvalid hraw)

theorem State.Inv.calibValid_eq_false (hinv : s.Inv) (h : s.validCal = none) : s.calibValid = false := by
  refine Bool.eq_false_iff.mpr fun hvalid => ?_
  obtain ⟨cal, hcal⟩ := Option.isSome_iff_exists.mp (hinv.calib_valid_iff.mp hvalid)
  cases h.symm.trans (validCal_eq_some hvalid hcal)

/-- Four marked slots hold the values of a record (R27, R146). -/
theorem State.Inv.exists_toRec (hinv : s.Inv) (hfull : s.stageWritten = 0b1111#4) :
    ∃ cal, s.calStage.toRec = some cal := by
  refine CalStage.exists_toRec fun slot => hinv.staged_has_value slot ?_
  rw [hfull]
  cases slot <;> decide

/-- READ_CALIB commits in a later step, so in a running block, and finds its four slots full (R148). -/
theorem State.Inv.readCalib_complete (hinv : s.Inv) (hf : fetch s = .ok .readCalib)
    (hguard : s.busy = true ∨ s.calibValid = false) (hslot : slotOfIdx s.calibStep = none) :
    ∃ cal, s.calStage.toRec = some cal := by
  have hbusy : s.busy ≠ false := fun hb => by simp [State.calibStep, hb, slotOfIdx] at hslot
  cases hrun : s.runState with
  | running => exact State.ReadyFor.calib_complete ⟨hinv, hrun, hf⟩ hguard hslot
  | halted => exact absurd (hinv.halted_at_rest hrun).1 hbusy

theorem mayTrigger_eq (m : MeasState) : m.mayTrigger = (m == .idle || m == .complete) := by
  cases m <;> rfl

/-! ### Sequencer, scanner and calibration ops -/

theorem execReport_guarded {tag : ReportTag} (h : execReport tag s = .next t) : Guarded (.report tag) s t := by
  rcases execReport_next h with ⟨r, hr, rfl⟩ | ⟨hr, rfl⟩
  · refine .passed ?_ (.faultFree ((emit_faultFree s (recordFor_ne_cycleError hr)).done))
    cases tag with
    | scanStart => rfl
    | temp => obtain ⟨v, hv, -⟩ := Option.map_eq_some_iff.mp hr; exact Option.isSome_of_eq_some hv
    | ac5 | ac6 | mc | md =>
      obtain ⟨cal, hcal, -⟩ := Option.map_eq_some_iff.mp hr
      exact calibValid_of_validCal hcal
  · refine .refused (fun hinv _ => ?_) rfl
    cases tag with
    | scanStart => cases hr
    | temp => exact Option.isSome_eq_false_iff.mpr (by simpa using Option.map_eq_none_iff.mp hr)
    | ac5 | ac6 | mc | md => exact hinv.calibValid_eq_false (Option.map_eq_none_iff.mp hr)

theorem execProbe_proceeds {a : BusAddr} (h : execProbe a s = .next t) : Proceeds s t :=
  transaction_proceeds (execProbe_next h) (fun _ _ u => (probed_faultFree u a true).done)
    fun _ u => .faultFree ((probed_faultFree u a false).done)

theorem execScan_proceeds (h : execScan s = .next t) : Proceeds s t :=
  transaction_proceeds (execScan_next h) (fun _ _ u => scanned_faultFree u _ true)
    fun _ u => .faultFree (scanned_faultFree u _ false)

theorem execReadId_proceeds (h : execReadId s = .next t) : Proceeds s t :=
  transaction_proceeds (execReadId_next h) (fun b _ u => (identified_faultFree u b).done)
    fun k u => idReadFailed_proceeds u k

theorem execReadReg16_proceeds {p : Byte} {slot : Slot} (h : execReadReg16 p slot s = .next t) : Proceeds s t :=
  transaction_proceeds (execReadReg16_next h) (fun _ _ _ => faultFree_of_eq rfl rfl rfl rfl) (busFault_proceeds _ p)

theorem execCommitCalib_guarded (h : execCommitCalib s = .next t) : Guarded .commitCalib s t := by
  rcases execCommitCalib_next h with ⟨hvalid, hfull, cal, -, rfl⟩ | ⟨hwhy, rfl⟩
  · exact .passed (by simp [precondition, hvalid, hfull]) (.faultFree (faultFree_of_eq rfl rfl rfl rfl))
  · refine .refused (fun hinv _ => ?_) rfl
    have hnot : ¬(s.calibValid = false ∧ s.stageWritten = 0b1111#4) := by
      rintro ⟨hvalid, hfull⟩
      obtain ⟨cal, hcal⟩ := hinv.exists_toRec hfull
      simp [hvalid, hfull, hcal] at hwhy
    exact Bool.eq_false_iff.mpr (by simpa [precondition] using hnot)

theorem execReadCalib_guarded (h : execReadCalib s = .next t) : Guarded .readCalib s t := by
  have hpre (hguard : s.busy = true ∨ s.calibValid = false) : precondition .readCalib s = true := by
    simpa [precondition] using hguard
  rcases execReadCalib_next h with
    ⟨hb, hvalid, rfl⟩ | ⟨hguard, ⟨slot, -, hnext⟩ | ⟨hslot, ⟨cal, -, rfl⟩ | ⟨hnone, rfl⟩⟩⟩
  · exact .refused (fun _ _ => by simp [precondition, hb, hvalid]) rfl
  · exact .passed (hpre hguard) (transaction_proceeds hnext (fun b0 b1 u => calibRead_faultFree u slot _ b0 b1)
      fun k u => (busFault_proceeds _ _ k _).after (enterCalib_faultFree u))
  · exact .passed (hpre hguard) (.faultFree ⟨rfl, rfl, rfl, _, rfl, by simp [calibRecords]⟩)
  · refine .refused (fun hinv hf => ?_) rfl
    obtain ⟨cal, hcal⟩ := hinv.readCalib_complete hf hguard hslot
    cases hnone.symm.trans hcal

/-! ### The measurement's phases and ops -/

section Phases

variable {op : Byte} {fin : State → State}

theorem triggerPhase_proceeds (hfin : ∀ u, FaultFree u (fin u)) (h : triggerPhase op fin s = .next t) : Proceeds s t :=
  transaction_proceeds (triggerPhase_next h) (fun _ _ _ => (hfin _).after (faultFree_of_eq rfl rfl rfl rfl))
    fun k _ => (busFault_proceeds op regCtrl k _).after (faultFree_of_eq rfl rfl rfl rfl)

theorem awaitPhase_proceeds (hfin : ∀ u, FaultFree u (fin u)) (h : awaitPhase fin s = .next t) : Proceeds s t := by
  rcases awaitPhase_next h with ⟨-, rfl⟩ | ⟨-, he⟩
  · have hmoved : FaultFree s { s.takeElapsed with measState := .readMsb } := ⟨rfl, rfl, rfl, _, rfl, by simp⟩
    exact .faultFree ((hfin _).after hmoved)
  · rw [he]
    exact .faultFree (.refl s)

theorem msbPhase_proceeds (hfin : ∀ u, FaultFree u (fin u)) (h : msbPhase op fin s = .next t) : Proceeds s t :=
  transaction_proceeds (msbPhase_next h) (fun _ _ _ => (hfin _).after (faultFree_of_eq rfl rfl rfl rfl))
    (busFault_proceeds op regMsb)

/-- In a consistent state the low byte is read with the high byte there (R39, R167). -/
theorem lsbPhase_guarded (hpre : precondition i s = true) (hm : s.measState = .readLsb)
    (hfin : ∀ u, FaultFree u (fin u)) (h : lsbPhase i.opcode fin s = .next t) : Guarded i s t := by
  rcases lsbPhase_next h with ⟨hnone, rfl⟩ | ⟨raw, -, hnext⟩
  · exact .refused (fun hinv _ => absurd (hinv.lsb_has_raw hm) (by simp [hnone])) rfl
  · exact .passed hpre (transaction_proceeds hnext (fun _ _ _ => (hfin _).after (faultFree_of_eq rfl rfl rfl rfl))
      (busFault_proceeds i.opcode regLsb))

end Phases

theorem execTrigger_guarded (h : execTrigger s = .next t) : Guarded .trigger s t := by
  have hpre : precondition .trigger s = s.measState.mayTrigger := (mayTrigger_eq _).symm
  rcases execTrigger_next h with ⟨hm, hp⟩ | ⟨hm, rfl⟩
  · exact .passed (hpre.trans hm) (triggerPhase_proceeds done_faultFree hp)
  · exact .refused (fun _ _ => hpre.trans hm) rfl

theorem execWaitConv_guarded (h : execWaitConv s = .next t) : Guarded .waitConv s t := by
  rcases execWaitConv_next h with ⟨hb, hp⟩ | ⟨-, hm, rfl⟩ | ⟨hb, hm, rfl⟩
  · exact .passed (by simp [precondition, hb]) (awaitPhase_proceeds done_faultFree hp)
  · exact .passed (by simp [precondition, hm])
      (.faultFree ((startPhase_faultFree s).congr rfl rfl rfl rfl))
  · exact .refused (fun _ _ => by simp [precondition, hb, hm]) rfl

theorem execReadMsb_guarded (h : execReadMsb s = .next t) : Guarded .readMsb s t := by
  rcases execReadMsb_next h with ⟨hm, hp⟩ | ⟨hm, rfl⟩
  · exact .passed (beq_iff_eq.mpr hm) (msbPhase_proceeds done_faultFree hp)
  · exact .refused (fun _ _ => beq_eq_false_iff_ne.mpr hm) rfl

theorem execReadLsb_guarded (h : execReadLsb s = .next t) : Guarded .readLsb s t := by
  rcases execReadLsb_next h with ⟨hm, hp⟩ | ⟨hm, rfl⟩
  · exact lsbPhase_guarded (beq_iff_eq.mpr hm) hm done_faultFree hp
  · exact .refused (fun _ _ => beq_eq_false_iff_ne.mpr hm) rfl

theorem execMeasure_guarded (h : execMeasure s = .next t) : Guarded .measure s t := by
  have hpre : precondition .measure s = (s.busy || s.measState.mayTrigger) := by rw [mayTrigger_eq]; rfl
  rcases execMeasure_next h with ⟨-, hm, hp⟩ | ⟨hb, hm, rfl⟩ | ⟨hb, hstep⟩
  · exact .passed (by simp [hpre, hm]) (triggerPhase_proceeds beginMeasure_faultFree hp)
  · exact .refused (fun _ _ => by simp [hpre, hb, hm]) rfl
  · replace hpre : precondition .measure s = true := by simp [hpre, hb]
    rcases hstep with ⟨-, rfl⟩ | ⟨-, hp⟩ | ⟨-, hp⟩ | ⟨hm, hp⟩ | ⟨-, rfl⟩
    · exact .passed hpre (.faultFree (startPhase_faultFree s))
    · exact .passed hpre (awaitPhase_proceeds .refl hp)
    · exact .passed hpre (msbPhase_proceeds .refl hp)
    · exact lsbPhase_guarded hpre hm done_faultFree hp
    · exact .passed hpre (.faultFree (.refl _))

/-! ### The compensation ops -/

/-- In a consistent state CMP_X1 and COMPENSATE miss a value only where a valid bit is 0. -/
theorem State.Inv.not_both_valid (hinv : s.Inv) (h : s.validRaw = none ∨ s.validCal = none) :
    (s.rawValid && s.calibValid) = false := by
  rcases h with h | h
  · simp [hinv.rawValid_eq_false h]
  · simp [hinv.calibValid_eq_false h]

theorem execCmpX1_guarded (h : execCmpX1 s = .next t) : Guarded .cmpX1 s t := by
  rcases execCmpX1_next h with ⟨raw, cal, hraw, hcal, rfl⟩ | ⟨hnone, rfl⟩
  · exact .passed (by simp [precondition, rawValid_of_validRaw hraw, calibValid_of_validCal hcal])
      (.faultFree (faultFree_of_eq rfl rfl rfl rfl))
  · exact .refused (fun hinv _ => hinv.not_both_valid hnone) rfl

theorem execCmpX2_guarded (h : execCmpX2 s = .next t) : Guarded .cmpX2 s t := by
  rcases execCmpX2_next h with ⟨x1, cal, hx1, hcal, hdiv⟩ | ⟨hnone, rfl⟩
  · refine .passed (by simp [precondition, hx1, calibValid_of_validCal hcal]) ?_
    rcases hdiv with ⟨-, rfl⟩ | ⟨-, rfl⟩
    · exact divFault_proceeds _ s
    · exact .faultFree (faultFree_of_eq rfl rfl rfl rfl)
  · refine .refused (fun hinv _ => ?_) rfl
    rcases hnone with hx1 | hcal
    · simp [precondition, hx1]
    · simp [precondition, hinv.calibValid_eq_false hcal]

theorem execCmpB5_guarded (h : execCmpB5 s = .next t) : Guarded .cmpB5 s t := by
  rcases execCmpB5_next h with ⟨x1, x2, hx1, hx2, rfl⟩ | ⟨hnone, rfl⟩
  · exact .passed (by simp [precondition, hx1, hx2]) (.faultFree (faultFree_of_eq rfl rfl rfl rfl))
  · refine .refused (fun _ _ => ?_) rfl
    rcases hnone with hx1 | hx2
    · simp [precondition, hx1]
    · simp [precondition, hx2]

theorem execCmpT_guarded (h : execCmpT s = .next t) : Guarded .cmpT s t := by
  rcases execCmpT_next h with ⟨b5, hb5, rfl⟩ | ⟨hb5, rfl⟩
  · exact .passed (by simp [precondition, hb5]) (.faultFree (faultFree_of_eq rfl rfl rfl rfl))
  · exact .refused (fun _ _ => by simp [precondition, hb5]) rfl

theorem execCompensate_guarded (h : execCompensate s = .next t) : Guarded .compensate s t := by
  rcases execCompensate_next h with ⟨raw, cal, hraw, hcal, hcomp⟩ | ⟨hnone, rfl⟩
  · refine .passed (by simp [precondition, rawValid_of_validRaw hraw, calibValid_of_validCal hcal]) ?_
    rcases hcomp with ⟨x1, x2, b5, v, -, rfl⟩ | ⟨x1, -, rfl⟩
    · exact .faultFree (faultFree_of_eq rfl rfl rfl rfl)
    · exact divFault_proceeds _ s
  · exact .refused (fun hinv _ => hinv.not_both_valid hnone) rfl

/-! ### Every op -/

theorem exec_guarded (h : exec i s = .next t) : Guarded i s t := by
  cases i with
  | report tag => exact execReport_guarded h
  | probe a => exact .passed rfl (execProbe_proceeds h)
  | scan => exact .passed rfl (execScan_proceeds h)
  | readId => exact .passed rfl (execReadId_proceeds h)
  | readReg16 p slot => exact .passed rfl (execReadReg16_proceeds h)
  | commitCalib => exact execCommitCalib_guarded h
  | readCalib => exact execReadCalib_guarded h
  | trigger => exact execTrigger_guarded h
  | waitConv => exact execWaitConv_guarded h
  | readMsb => exact execReadMsb_guarded h
  | readLsb => exact execReadLsb_guarded h
  | measure => exact execMeasure_guarded h
  | cmpX1 => exact execCmpX1_guarded h
  | cmpX2 => exact execCmpX2_guarded h
  | cmpB5 => exact execCmpB5_guarded h
  | cmpT => exact execCmpT_guarded h
  | compensate => exact execCompensate_guarded h
  | jmp _ | halt => cases h; exact .passed rfl (.faultFree (faultFree_of_eq rfl rfl rfl rfl))

/-- A step of an op takes at most one fault, and that one last. -/
theorem Guarded.at_most_one_fault (h : Guarded i s t) :
    ∃ u, FaultFree s u ∧ (t = u ∨ ∃ c info, t = raiseFault c info u) := by
  cases h with
  | passed _ h =>
    cases h with
    | faultFree h => exact ⟨t, h, .inl rfl⟩
    | @fault u c h _ info => exact ⟨u, h, .inr ⟨c, info, rfl⟩⟩
  | refused _ h => exact ⟨s, .refl s, .inr ⟨_, _, h⟩⟩

/-- Settles O19: what the step does before its fault changes no saved register and emits no CYCLE_ERROR, and the fault itself
halts and appends nothing (`raiseFault_under_halt`). -/
theorem haltPolicyFaultsHalt : Obligations.HaltPolicyFaultsHalt := by
  intro i s t hpolicy h
  obtain ⟨u, hu, hfault⟩ := (exec_guarded h).at_most_one_fault
  have hend : t = u ∨ t.runState = .halted ∧ t.trace = u.trace := by
    rcases hfault with rfl | ⟨c, info, rfl⟩
    · exact .inl rfl
    · exact raiseFault_under_halt (by rw [hu.cfg_eq]; exact hpolicy) c info
  rcases hend with rfl | ⟨hhalt, htrace⟩
  · exact ⟨fun hne => absurd hu.cause_eq (hne.resolve_left (absurd hu.info_eq)), hu.events⟩
  · exact ⟨fun _ => hhalt, htrace ▸ hu.events⟩

theorem Proceeds.cause_ne_seqError (h : Proceeds s t) (hs : s.cause ≠ .seqError) : t.cause ≠ .seqError := by
  cases h with
  | faultFree h => rwa [h.cause_eq]
  | @fault u c h hc info =>
    rcases raiseFault_cause c info u with he | he <;> rw [he]
    · rwa [h.cause_eq]
    · exact hc

/-- Settles O21: a step that raises no SEQ_ERROR is past its precondition, and leaves another cause. -/
theorem seqErrorExactlyOnFailedPrecondition : Obligations.SeqErrorExactlyOnFailedPrecondition := by
  intro i s t hinv hf hcause h
  cases exec_guarded h with
  | passed hpre h => simp [hpre, h.cause_ne_seqError hcause]
  | refused hpre h => simp [hpre hinv hf, h, seqFault_eq]

end Sys2Proof.Machine
end

section
/-! Reset, totality and the placed word (70_reset_and_hazards.md R280 to R282, 45_sequencer.md section 1): what a host reset does,
that no op stops the machine, and that `State.withFetchWord` puts its word where the next step fetches. -/

namespace Sys2Proof.Machine

variable {s : State}

/-! ### A host reset (R281, R282) -/

theorem step_of_resetDue (hc : configAccepted s.cfg = true) (hr : resetDue s = true) : step s = hostReset s := by
  simp [step, hc, hr]

theorem hostReset_of_idle_bus (h : s.busReq = none) :
    hostReset s = .next { State.reset with
      cfg := s.cfg, trace := s.trace ++ [.reset], busIn := s.busIn, ticks := s.ticks.tail } := by
  simp [hostReset, h]

theorem hostReset_of_outstanding (h : s.busReq ≠ none) : hostReset s = .refused .resetDuringTransaction := by
  simp [hostReset, Option.isSome_iff_ne_none.mpr h]

/-- Settles O2: the step of a due reset is `hostReset`, with or without a request outstanding. -/
theorem hostResetRestoresResetState : Obligations.HostResetRestoresResetState := by
  intro s rest hwf hticks
  have hdue : resetDue s = true := by simp [resetDue, hticks]
  have htail : s.ticks.tail = rest := congrArg List.tail hticks
  rw [step_of_resetDue hwf hdue, ← htail]
  exact ⟨hostReset_of_idle_bus, hostReset_of_outstanding⟩

/-! ### Every op answers -/

/-- A guarded meaning answers when it does on both sides of its guard. -/
theorem ite_answers {p : Prop} [Decidable p] {a b : Result} (ha : ∃ t, a = .next t) (hb : ∃ t, b = .next t) :
    ∃ t, (if p then a else b) = .next t := by
  split_ifs
  · exact ha
  · exact hb

theorem execReport_answers (tag : ReportTag) : ∃ t, execReport tag s = .next t := by
  unfold execReport reportHeld
  split <;> exact ⟨_, rfl⟩

theorem execProbe_answers (a : BusAddr) : ∃ t, execProbe a s = .next t := transact_answers

theorem execScan_answers : ∃ t, execScan s = .next t := transact_answers

theorem execReadId_answers : ∃ t, execReadId s = .next t := transact_answers

theorem execReadReg16_answers (p : Byte) (slot : Slot) : ∃ t, execReadReg16 p slot s = .next t := transact_answers

theorem execCommitCalib_answers : ∃ t, execCommitCalib s = .next t := by
  refine ite_answers ⟨_, rfl⟩ ?_
  split <;> exact ⟨_, rfl⟩

theorem commitAndReport_answers : ∃ t, commitAndReport s = .next t := by
  unfold commitAndReport
  split <;> exact ⟨_, rfl⟩

theorem execReadCalib_answers : ∃ t, execReadCalib s = .next t := by
  refine ite_answers ⟨_, rfl⟩ ?_
  split
  · exact transact_answers
  · exact commitAndReport_answers

theorem awaitPhase_answers (fin : State → State) : ∃ t, awaitPhase fin s = .next t :=
  ite_answers ⟨_, rfl⟩ ⟨_, rfl⟩

theorem lsbPhase_answers (op : Byte) (fin : State → State) : ∃ t, lsbPhase op fin s = .next t := by
  unfold lsbPhase
  split
  · exact ⟨_, rfl⟩
  · exact transact_answers

theorem measureOn_answers : ∃ t, measureOn s = .next t := by
  unfold measureOn
  split
  · exact ⟨_, rfl⟩
  · exact awaitPhase_answers id
  · exact transact_answers
  · exact lsbPhase_answers _ _
  · exact ⟨_, rfl⟩
  · exact ⟨_, rfl⟩

theorem execCmpX1_answers : ∃ t, execCmpX1 s = .next t := by
  unfold execCmpX1
  split <;> exact ⟨_, rfl⟩

theorem execCmpX2_answers : ∃ t, execCmpX2 s = .next t := by
  unfold execCmpX2
  split
  · exact ite_answers ⟨_, rfl⟩ ⟨_, rfl⟩
  · exact ⟨_, rfl⟩

theorem execCmpB5_answers : ∃ t, execCmpB5 s = .next t := by
  unfold execCmpB5
  split <;> exact ⟨_, rfl⟩

theorem execCmpT_answers : ∃ t, execCmpT s = .next t := by
  unfold execCmpT
  split <;> exact ⟨_, rfl⟩

theorem execCompensate_answers : ∃ t, execCompensate s = .next t := by
  unfold execCompensate
  split
  · split <;> exact ⟨_, rfl⟩
  · exact ⟨_, rfl⟩

/-- Settles O16, op by op: a fault of the spec is a next state, and a transaction or a wait without its answer answers too. -/
theorem everyOpAnswersNext : Obligations.EveryOpAnswersNext := by
  intro i s
  cases i with
  | report tag => exact execReport_answers tag
  | probe a => exact execProbe_answers a
  | scan => exact execScan_answers
  | readId => exact execReadId_answers
  | readReg16 p slot => exact execReadReg16_answers p slot
  | commitCalib => exact execCommitCalib_answers
  | readCalib => exact execReadCalib_answers
  | trigger | readMsb => exact ite_answers transact_answers ⟨_, rfl⟩
  | waitConv => exact ite_answers (awaitPhase_answers State.done) (ite_answers ⟨_, rfl⟩ ⟨_, rfl⟩)
  | readLsb => exact ite_answers (lsbPhase_answers _ _) ⟨_, rfl⟩
  | measure => exact ite_answers measureOn_answers (ite_answers transact_answers ⟨_, rfl⟩)
  | cmpX1 => exact execCmpX1_answers
  | cmpX2 => exact execCmpX2_answers
  | cmpB5 => exact execCmpB5_answers
  | cmpT => exact execCmpT_answers
  | compensate => exact execCompensate_answers
  | jmp _ | halt => exact ⟨_, rfl⟩

/-! ### The placed word (log 6) -/

section PlacedWord

variable {rom : List Word} {n last : Nat} {w : Word}

theorem placeWord_length : (placeWord rom n last w).length = max rom.length (max n last + 1) := by
  simp only [placeWord, List.length_set, List.length_append, List.length_replicate]
  omega

theorem placeWord_getElem? : (placeWord rom n last w)[n]? = some w := by
  have hn : n < (placeWord rom n last w).length := by rw [placeWord_length]; omega
  refine List.getElem?_set_self ?_
  simpa [placeWord] using hn

end PlacedWord

theorem fetchSlot_lt (upc : Upc) : fetchSlot upc < 256 := by
  unfold fetchSlot
  split_ifs <;> omega

theorem tableWord_toNat (w : Word) : tableWord 32 w.toNat = w := by
  rw [tableWord, Nat.mod_eq_of_lt w.isLt, BitVec.ofNat_toNat, BitVec.setWidth_eq]

/-- The ROM holds the placed word where `upc` points. -/
theorem withFetchWord_rom_at_upc (s : State) (w : Word) :
    (s.withFetchWord 32 w.toNat).cfg.rom[(s.withFetchWord 32 w.toNat).upc.toNat]? = some w := by
  have hupc : (s.withFetchWord 32 w.toNat).upc.toNat = fetchSlot s.upc := by
    have hslot := fetchSlot_lt s.upc
    exact (BitVec.toNat_ofNat _ _).trans (Nat.mod_eq_of_lt (by omega))
  rw [hupc]
  exact placeWord_getElem?.trans (congrArg some (tableWord_toNat w))

/-- Lengthened up to RESUME_UPC, the ROM still has at most 256 words, and U15 refuses nothing. -/
theorem withFetchWord_accepted (nbits w : Nat) (hlen : s.cfg.rom.length ≤ 256) (hmax : s.cfg.maxConsecFail ≠ 0#8) :
    configAccepted (s.withFetchWord nbits w).cfg = true := by
  have hslot := fetchSlot_lt s.upc
  have hresume := s.cfg.resumeUpc.isLt
  have hrom : (s.withFetchWord nbits w).cfg.rom.length =
      max s.cfg.rom.length (max (fetchSlot s.upc) s.cfg.resumeUpc.toNat + 1) := placeWord_length
  refine (configAccepted_iff _).mpr ⟨List.ne_nil_of_length_pos ?_, ?_, hmax, ?_⟩
  · omega
  · omega
  · change s.cfg.resumeUpc.toNat < _
    omega

theorem withFetchWord_not_resetDue (s : State) (nbits w : Nat) : resetDue (s.withFetchWord nbits w) = false := by
  refine beq_eq_false_iff_ne.mpr fun hreset => ?_
  have hfound : s.ticks.find? (!· == .reset) = some .reset := (List.find?_not_eq_head?_dropWhile _ _).trans hreset
  exact absurd (List.find?_some hfound) (by decide)

/-- Settles O13: the configuration is accepted, no reset is due, and the word at `upc` is the op's, which decodes to the op
(`decodeOfEncodeIsTheOp`). -/
theorem placedWordRunsNext : Obligations.PlacedWordRunsNext := fun s i hlen hmax =>
  step_of_fetched (withFetchWord_accepted _ _ hlen hmax) (withFetchWord_not_resetDue s _ _) rfl
    (fetch_of_decode (withFetchWord_rom_at_upc s (encode i)) (decodeOfEncodeIsTheOp i))

end Sys2Proof.Machine
end
